-- ==== Sys2Proof/Word.lean ====
section
/-! DEFINITION. The word types of HTM-CORE (spec/00_scope.md rule R6): a byte, a 16-bit word and the 40-bit sensor stream.
Everything computed from them (byte halves, slices, the stream's bits) stands in Machine/Operands.lean. -/

namespace Sys2Proof

/-- An unsigned 8-bit value (R6). -/
abbrev Byte := BitVec 8

/-- An unsigned 16-bit value (R6). -/
abbrev Word := BitVec 16

/-- The 40 bits of one acquisition, written as the pattern of R73 and R76: stream bit `i` is pattern bit `39 - i`. -/
abbrev SensorBits := BitVec 40

end Sys2Proof
end

