-- ==== Sys2Proof/Config.lean ====
section
/-! DEFINITION. What is fixed for one HTM-CORE (spec/00_scope.md rule R5) and what the spec leaves free: the open parameters,
the turns of the agents (spec/20_memory.md rules R59, R65) and the free values, which have no body. -/

namespace Sys2Proof

/-- The parameter `SENSOR_CHK` (R135): the two named instantiations, and any other total function of the 32 data bits. -/
inductive SensorChk where
  | sum4
  | sum4Eac
  | other (k : Nat)
  deriving DecidableEq, Repr

/-- The open parameters of R5 that are not the register `SLAVE_ADDR`. They are plain data, so that a claim can quantify over
them: a state carries its own configuration and no step writes it (R34). -/
structure Config where
  /-- `SENSOR_CHK`, decision D5. -/
  sensorChk : SensorChk
  /-- `PREP_LOW_WAIT`, decision D6. -/
  prepLowWait : Bool
  /-- `PACE_ON_DISCARD`, decision D10. -/
  paceOnDiscard : Bool
  /-- `COOLDOWN_AFTER_LAST`, decision D16. -/
  cooldownAfterLast : Bool
  deriving DecidableEq, Repr

/-- One turn of the total order of R59: which agent acts next. The environment's liberties of R65 are exactly that nothing
constrains the sequence of turns. `stmt`, `main` and `transact` are the three sizes of a turn of MAIN (assumption log 4). -/
inductive Turn where
  /-- MASTER sends one byte (R65, R66). -/
  | master (b : Byte)
  /-- HANDLER's turn: it runs when the notification condition of R169 holds. -/
  | handler
  /-- MAIN performs one statement (R55, decision D19). -/
  | stmt
  /-- MAIN performs the operation its sequencer selects (R84), as far as its inputs reach. -/
  | main
  /-- The core runs the encoded row (a request frame, a stream, a response) that stands at its decode point. -/
  | transact
  /-- The abstract reset event (R190), which may come at any time. -/
  | reset
  deriving DecidableEq, Repr, Inhabited

namespace Config

/-- The parameter values `95_test_vectors.md` uses (DESIGN CHOICE for the two timing parameters, assumption log 6). -/
def default : Config :=
  { sensorChk := .sum4, prepLowWait := true, paceOnDiscard := false, cooldownAfterLast := false }

/-- The configured slave address of the reset state (DESIGN CHOICE, assumption log 6): the only value the source shows. -/
def slaveAddr : Byte := 0x06

/-- FREE: a sensor checksum that is neither of R135's two named ones ("any total function of (HUM, TMP)"). -/
opaque otherChk : Nat → Word → Word → Byte

/-- FREE: the level the line shows at a `PinRead()` that no stimulus answers (R45, U9). -/
opaque pinLevel : Nat → Bool

/-- FREE: the turn taken when the stimulus names none (R59, R65). -/
opaque freeTurn : Nat → Turn

end Config

end Sys2Proof
end

