-- ==== Sys2Proof/Syntax.lean ====
section
/-! DEFINITION. The instructions of HTM-CORE: one constructor per row of spec/opcode_table.json, the seven encoded rows of
spec/30_encoding.md rule R77 first, then the seventeen internal operations of rule R84. -/

namespace Sys2Proof

/-- The result of `FC.decodeRequestType` (R18, R101). -/
inductive ReqType where
  | temperature
  | humidity
  | unknown
  deriving DecidableEq, Repr

/-- One constructor per row of the opcode table. The fields of an encoded row are the fields of its format that its constraint
leaves open (R71 to R73); an internal operation carries its operands (R84). -/
inductive Instr where
  /-- `REQ.TEMP`: byte 3 is 0x01; the trailer is the CRC of the other fields (R71, R77). -/
  | reqTemp (address rsv1 rsv2 rsv4 rsv5 : Byte)
  /-- `REQ.HUM`: byte 3 is 0x02. -/
  | reqHum (address rsv1 rsv2 rsv4 rsv5 : Byte)
  /-- `REQ.UNK`: byte 3 is any other value. -/
  | reqUnk (address rsv1 rsv2 requestType rsv4 rsv5 : Byte)
  /-- `REQ.BADCRC`: the trailer is not the CRC of bytes 0 to 5. -/
  | reqBadCrc (address rsv1 rsv2 requestType rsv4 rsv5 crcLo crcHi : Byte)
  /-- `REQ.OTHER`: the one byte the handler reads, not the slave address. -/
  | reqOther (address : Byte)
  /-- `RSP.VALUE`: the only frame HTM-CORE transmits (R72). -/
  | rspValue (address : Byte) (value : Word)
  /-- `STR.DATA`: the 40 bits of one acquisition (R73). -/
  | strData (humidity temperature : Word) (checksum : Byte)
  | crc16Compute (bytes : List Byte) (length : Nat)
  | fcValidate
  | fcDecodeRequestType
  | fcEncodeResponse (address : Byte) (value : Word)
  | dispNotify
  | mainPoll
  | mainReadFrame
  | mainIndicatorOn
  | mainValidateStep
  | mainDecodeStep
  | mainSampleStep
  | mainEncodeStep
  | mainSend
  | mainPaceRearm
  | mainMismatch
  | sdAcquire
  | seSampleMedian (requestType : ReqType)
  deriving DecidableEq, Repr

end Sys2Proof
end

