-- ==== Sys2Proof/Machine/Operands.lean ====
section
/-! DEFINITION. Operand forms (spec/20_memory.md rules R48 to R50, spec/30_encoding.md rules R74 to R76): the halves of a word,
the byte order of a number, the request type of byte 3, the fields and the bits of a sensor stream, and the sort of the Sample
List. All of it is pure: no state is read. -/

namespace Sys2Proof.Machine

/-- `w[15:8]`, the high byte (R6). -/
def hiByte (w : Word) : Byte := w.extractLsb' 8 8

/-- `w[7:0]`, the low byte (R6). -/
def loByte (w : Word) : Byte := w.extractLsb' 0 8

/-- `{hi, lo}` (R6, R74). -/
def joinBytes (hi lo : Byte) : Word := hi ++ lo

/-- The request-type code table, complete (R78). -/
def requestTypeOf (b : Byte) : ReqType :=
  if b = 0x01 then .temperature else if b = 0x02 then .humidity else .unknown

/-- `FUNC_CODE` and `BYTE_COUNT`, hard-wired (R29). -/
def funcCode : Byte := 0x04
def byteCount : Byte := 0x02

/-- The first five bytes of a response: the value travels high byte first (R49, R102). -/
def responseBody (address : Byte) (value : Word) : List Byte :=
  [address, funcCode, byteCount, hiByte value, loByte value]

/-- A word as the two bytes on the wire, low byte first: the byte order of a CRC (R48). -/
def crcTrailer (c : Word) : List Byte := [loByte c, hiByte c]

/-- Stream bits 0 to 15, first bit most significant (R50, R134). -/
def streamHum (s : SensorBits) : Word := s.extractLsb' 24 16

/-- Stream bits 16 to 31, first bit most significant (R50, R134). -/
def streamTmp (s : SensorBits) : Word := s.extractLsb' 8 16

/-- Stream bits 32 to 39, first bit most significant (R50, R134). -/
def streamChk (s : SensorBits) : Byte := s.extractLsb' 0 8

/-- The stream with the given three fields (R73). -/
def streamOf (h t : Word) (c : Byte) : SensorBits := h ++ t ++ c

/-- `SBIT[i]`: stream bit `i` is pattern bit `39 - i` (R73). -/
def streamBit (s : SensorBits) (i : Nat) : Bool := s.getLsbD (39 - i)

/-- `SBIT[i] <- b`. Only the forty positions of R14 exist. -/
def setStreamBit (s : SensorBits) (i : Nat) (b : Bool) : SensorBits :=
  if i < 40 then
    if b then s ||| BitVec.twoPow 40 (39 - i) else s &&& ~~~ BitVec.twoPow 40 (39 - i)
  else s

/-- The five bytes `HH HL TH TL CK` of a stream (R82). -/
def streamBytes (h t : Word) (c : Byte) : List Byte := [hiByte h, loByte h, hiByte t, loByte t, c]

/-- `n` bytes of a number, the first on the wire most significant (R76). -/
def wireBytes (n w : Nat) : List Byte :=
  (List.range n).map fun k => BitVec.ofNat 8 (w >>> (8 * (n - 1 - k)))

/-- Put `w` into a list sorted descending, in the unsigned order of R152. -/
def insertDesc (w : Word) : List Word → List Word
  | [] => [w]
  | x :: xs => if x.toNat ≤ w.toNat then w :: x :: xs else x :: insertDesc w xs

/-- A list sorted descending (R151). The algorithm is unobservable (U18). -/
def sortDesc : List Word → List Word
  | [] => []
  | x :: xs => insertDesc x (sortDesc xs)

theorem length_insertDesc (w : Word) (l : List Word) : (insertDesc w l).length = l.length + 1 := by
  induction l with
  | nil => rfl
  | cons x xs ih => unfold insertDesc; split <;> simp [ih]

theorem length_sortDesc (l : List Word) : (sortDesc l).length = l.length := by
  induction l with
  | nil => rfl
  | cons x xs ih => simp [sortDesc, length_insertDesc, ih]

/-- The Sample List sorted descending in place (R151, decision D30). -/
def sortSample (v : Vector Word 9) : Vector Word 9 :=
  ⟨(sortDesc v.toList).toArray, by simp [length_sortDesc]⟩

end Sys2Proof.Machine
end

