-- ==== Sys2Proof/Machine/CrcEngine.lean ====
section
/-! DEFINITION. The CRC16 Engine as pure functions (spec/40_crc16.md rules R90 to R95): the table by its generating rule, one
step, the computation, and the two frame tests built on it. -/

namespace Sys2Proof.Machine

/-- One of the eight shift-and-conditionally-XOR steps of R92; 0xA001 is the reflected polynomial. -/
def crcShift (c : Word) : Word :=
  if c.getLsbD 0 then (c >>> 1) ^^^ 0xA001 else c >>> 1

/-- `k` shifts. -/
def crcShifts : Nat → Word → Word
  | 0, c => c
  | k + 1, c => crcShifts k (crcShift c)

/-- `TAB[i]`, by its generating rule (R92). The listing of R91 is proved equal in Laws/Crc.lean. -/
def tab (i : Byte) : Word := crcShifts 8 (i.zeroExtend 16)

/-- `CRC.step(crc, b) = (crc >> 8) ^ TAB[(crc ^ zext_16(b))[7:0]]` (R95). -/
def crcStep (crc : Word) (b : Byte) : Word :=
  (crc >>> 8) ^^^ tab (loByte crc ^^^ b)

/-- `CRC_INIT` (R29). -/
def crcInit : Word := 0xFFFF

/-- `CRC16.compute(bytes, length)` (R90): the step folded from the left over the first `length` bytes, from 0xFFFF. -/
def crc16 (bytes : List Byte) (length : Nat) : Word :=
  (bytes.take length).foldl crcStep crcInit

/-- A body followed by its CRC, low byte first: the pseudo-instruction `FRAME` for six bytes (R83), a response for five (R102). -/
def withTrailer (body : List Byte) : List Byte :=
  body ++ crcTrailer (crc16 body body.length)

/-- The test of `FC.validate` on eight bytes: both trailer bytes match the CRC of the first six, low byte first (R100). -/
def requestCrcOk (b0 b1 b2 b3 b4 b5 lo hi : Byte) : Bool :=
  let c := crc16 [b0, b1, b2, b3, b4, b5] 6
  lo == loByte c && hi == hiByte c

end Sys2Proof.Machine
end

