-- ==== Sys2Proof/WellFormed.lean ====
section
/-! DEFINITION. Which terms of `Instr` stand for a row of the table on a block with the given slave address: the `constraint`
column of spec/opcode_table.json (spec/30_encoding.md rule R77), the operand condition of `CRC16.compute` (U21) and the operand
condition of `SE.sampleMedian` (R156). -/

namespace Sys2Proof

open Machine

/-- The row's constraint, for a block whose `SLAVE_ADDR` is `slave`. -/
def Instr.wellFormed (slave : Byte) : Instr → Bool
  | .reqTemp a _ _ _ _ => a == slave
  | .reqHum a _ _ _ _ => a == slave
  | .reqUnk a _ _ t _ _ => a == slave && requestTypeOf t == .unknown
  | .reqBadCrc a r1 r2 t r4 r5 lo hi => a == slave && !requestCrcOk a r1 r2 t r4 r5 lo hi
  | .reqOther a => a != slave
  | .rspValue _ _ => true
  | .strData _ _ _ => true
  | .crc16Compute bytes length => decide (length ≤ bytes.length)
  | .fcValidate => true
  | .fcDecodeRequestType => true
  | .fcEncodeResponse _ _ => true
  | .dispNotify => true
  | .mainPoll => true
  | .mainReadFrame => true
  | .mainIndicatorOn => true
  | .mainValidateStep => true
  | .mainDecodeStep => true
  | .mainSampleStep => true
  | .mainEncodeStep => true
  | .mainSend => true
  | .mainPaceRearm => true
  | .mainMismatch => true
  | .sdAcquire => true
  | .seSampleMedian t => t != .unknown

end Sys2Proof
end

