-- ==== Sys2Proof/Decode.lean ====
section
/-! DEFINITION. From bits to an instruction or a rejection by name, and back. The three formats of spec/30_encoding.md rules
R71 to R73 come from three places (the receiver, the response buffer, the sensor), so a decoder is told which it reads. A
request is decoded by the three tests of rule R77, in their order. -/

namespace Sys2Proof

open Machine

/-- The three formats of R70. -/
inductive Format where
  | req
  | rsp
  | str
  deriving DecidableEq, Repr

/-- Why bytes stand for no row. -/
inductive Reject where
  /-- Nothing has arrived. -/
  | noByte
  /-- The address matches and fewer than eight bytes are there (R53). -/
  | shortRequest
  /-- Fewer than seven bytes of a response. -/
  | shortResponse
  /-- Bytes 1 and 2 are not the constants 0x04, 0x02 (R72). -/
  | responseConstants
  /-- The response's trailer is not the CRC of its first five bytes (R72). -/
  | responseCrc
  /-- Fewer than five bytes of a stream. -/
  | shortStream
  deriving DecidableEq, Repr

/-- The outcome of decoding: an instruction and the bytes after it, or a rejection. -/
inductive Decoded where
  | ok (i : Instr) (rest : List Byte)
  | rejected (why : Reject)
  deriving DecidableEq, Repr

/-- The row of a frame whose address matches: test 2, the CRC, before test 3, the type (R77, R170). -/
def requestRow (a r1 r2 t r4 r5 lo hi : Byte) : Instr :=
  if requestCrcOk a r1 r2 t r4 r5 lo hi then
    match requestTypeOf t with
    | .temperature => .reqTemp a r1 r2 r4 r5
    | .humidity => .reqHum a r1 r2 r4 r5
    | .unknown => .reqUnk a r1 r2 t r4 r5
  else .reqBadCrc a r1 r2 t r4 r5 lo hi

/-- Decode what stands in the receive queue. Test 1 is made on byte 0 alone, before bytes 1 to 7 are looked at (R77); a frame
of another address is one byte long here. -/
def decodeRequest (slave : Byte) : List Byte → Decoded
  | [] => .rejected .noByte
  | a :: bytes =>
    if a = slave then
      match bytes with
      | r1 :: r2 :: t :: r4 :: r5 :: lo :: hi :: rest => .ok (requestRow a r1 r2 t r4 r5 lo hi) rest
      | _ => .rejected .shortRequest
    else .ok (.reqOther a) bytes

/-- Read a response frame (R72). HTM-CORE never does: the row is emitted only. -/
def decodeResponse : List Byte → Decoded
  | a :: f :: n :: vh :: vl :: lo :: hi :: rest =>
    if f = funcCode ∧ n = byteCount then
      let c := crc16 [a, f, n, vh, vl] 5
      if lo = loByte c ∧ hi = hiByte c then .ok (.rspValue a (joinBytes vh vl)) rest
      else .rejected .responseCrc
    else .rejected .responseConstants
  | _ => .rejected .shortResponse

/-- Read a sensor stream, written as the five bytes of R82. Every 40-bit stream is a row (R77). -/
def decodeStream : List Byte → Decoded
  | hh :: hl :: th :: tl :: ck :: rest => .ok (.strData (joinBytes hh hl) (joinBytes th tl) ck) rest
  | _ => .rejected .shortStream

/-- The decoder. -/
def decode (f : Format) (slave : Byte) (bytes : List Byte) : Decoded :=
  match f with
  | .req => decodeRequest slave bytes
  | .rsp => decodeResponse bytes
  | .str => decodeStream bytes

/-- The format of an encoded row; an internal operation has none (R84). -/
def formatOf : Instr → Option Format
  | .reqTemp _ _ _ _ _ => some .req
  | .reqHum _ _ _ _ _ => some .req
  | .reqUnk _ _ _ _ _ _ => some .req
  | .reqBadCrc _ _ _ _ _ _ _ _ => some .req
  | .reqOther _ => some .req
  | .rspValue _ _ => some .rsp
  | .strData _ _ _ => some .str
  | .crc16Compute _ _ => none
  | .fcValidate => none
  | .fcDecodeRequestType => none
  | .fcEncodeResponse _ _ => none
  | .dispNotify => none
  | .mainPoll => none
  | .mainReadFrame => none
  | .mainIndicatorOn => none
  | .mainValidateStep => none
  | .mainDecodeStep => none
  | .mainSampleStep => none
  | .mainEncodeStep => none
  | .mainSend => none
  | .mainPaceRearm => none
  | .mainMismatch => none
  | .sdAcquire => none
  | .seSampleMedian _ => none

/-- The encoder: the bytes of an encoded row, byte 0 first (R71 to R73, R82). An internal operation has no bytes (R84). -/
def encode : Instr → List Byte
  | .reqTemp a r1 r2 r4 r5 => withTrailer [a, r1, r2, 0x01, r4, r5]
  | .reqHum a r1 r2 r4 r5 => withTrailer [a, r1, r2, 0x02, r4, r5]
  | .reqUnk a r1 r2 t r4 r5 => withTrailer [a, r1, r2, t, r4, r5]
  | .reqBadCrc a r1 r2 t r4 r5 lo hi => [a, r1, r2, t, r4, r5, lo, hi]
  | .reqOther a => [a]
  | .rspValue a v => withTrailer (responseBody a v)
  | .strData h t c => streamBytes h t c
  | .crc16Compute _ _ => []
  | .fcValidate => []
  | .fcDecodeRequestType => []
  | .fcEncodeResponse _ _ => []
  | .dispNotify => []
  | .mainPoll => []
  | .mainReadFrame => []
  | .mainIndicatorOn => []
  | .mainValidateStep => []
  | .mainDecodeStep => []
  | .mainSampleStep => []
  | .mainEncodeStep => []
  | .mainSend => []
  | .mainPaceRearm => []
  | .mainMismatch => []
  | .sdAcquire => []
  | .seSampleMedian _ => []

/-- The format a width of the opcode table names: 56 bits a response, 40 bits a stream, any other a request. -/
def formatOfWidth (nbits : Nat) : Format :=
  if nbits = 56 then .rsp else if nbits = 40 then .str else .req

/-- The bytes of a table word. The table writes a frame as one number with byte 0 its most significant byte (R76); bytes above
`nbits` are zero, up to the eight bytes of the longest row. -/
def tableBytes (slave : Byte) (nbits w : Nat) : List Byte :=
  let given := wireBytes (nbits / 8) w
  match formatOfWidth nbits, given with
  | .req, a :: _ => if a = slave then given ++ List.replicate (8 - given.length) 0 else given
  | _, _ => given

/-- The instruction the decoder reads from a word of the opcode table, on the configured block (`Config.slaveAddr`). -/
def decodeTableWord (nbits w : Nat) : Option Instr :=
  match decode (formatOfWidth nbits) Config.slaveAddr (tableBytes Config.slaveAddr nbits w) with
  | .ok i _ => some i
  | .rejected _ => none

end Sys2Proof
end

