-- ==== Sys2Proof/Machine/State.lean ====
section
/-! DEFINITION. The state of HTM-CORE as plain data (spec/10_state.md rules R10 to R34), the reasons a step can stop, and the
state after reset. Fields come in three groups: the registers of R11 to R28, the environment's sequences of R31, and the
model's own fields (which R34 and decision D1 leave to a model). -/

namespace Sys2Proof.Machine

/-- `MSEQ`, where the main loop is (R19). -/
inductive MSeq where
  | poll
  | read
  | indOn
  | validate
  | decode
  | sample
  | encode
  | send
  | pace
  | rearm
  | mismatch
  deriving DecidableEq, Repr

/-- The statements of StartPulse (R131), one per line of its pseudocode. -/
inductive StartStmt where
  | wake
  | low
  | release
  | input
  deriving DecidableEq, Repr

/-- The busy-polls of PreparationResponse (R132). -/
inductive PrepPoll where
  | p1
  | p2
  | p3
  deriving DecidableEq, Repr

/-- Where DataAcquisition is inside a bit (R133): the poll `a` (the delay `B` follows its last read), the sample `c`, the poll
`d`; `asm` is reached when bit 39's `d` has ended, before the assembly of R134. -/
inductive BitStmt where
  | a
  | c
  | d
  | asm
  deriving DecidableEq, Repr

/-- `SDSEQ` (R20), with the sub-step inside `SD_START`, `SD_PREP` and `SD_DATA`. -/
inductive SdSeq where
  | idle
  | start (k : StartStmt)
  | prep (p : PrepPoll)
  | data (b : BitStmt)
  | done
  | fail
  deriving DecidableEq, Repr

/-- `DSTATE`, the Dispatch State (R22). -/
inductive DState where
  | idle
  | addressMatched
  | addressMismatched
  deriving DecidableEq, Repr

/-- `PIN_MODE` (R28). -/
inductive PinMode where
  | output
  | input
  deriving DecidableEq, Repr

/-- The events of R160, each with the value it names. -/
inductive Event where
  | addrMismatch (byte : Byte)
  | crcMismatch (frame : Vector Byte 8)
  | unknownType (byte : Byte)
  | sensorChk (chk : Byte)
  deriving DecidableEq, Repr

/-- The six durations of R211, by name: the model keeps no clock (R210). -/
inductive Duration where
  | wake
  | start
  | release
  | sample
  | cooldown
  | pace
  deriving DecidableEq, Repr

/-- The two diagnostics whose place the source gives (R47, R178). -/
inductive DiagKind where
  | crcMismatch
  | addressMismatch
  deriving DecidableEq, Repr

/-- What the trace records, in order: events (R160), writes of the pin (R45), delays (R46) and diagnostics (R47). -/
inductive Obs where
  | event (e : Event)
  | pinMode (m : PinMode)
  | pinDrive (high : Bool)
  | delay (d : Duration)
  | diag (k : DiagKind)
  deriving DecidableEq, Repr

/-- Everything the spec gives the machine, and the model's own fields. -/
structure State where
  /-- `CRC` (R11). -/
  crc : Word
  /-- `REQ[0..7]` (R12). -/
  req : Vector Byte 8
  /-- `RSP[0..6]` (R13). -/
  rsp : Vector Byte 7
  /-- `SBIT[0..39]` (R14), as the pattern of R73. -/
  sbit : SensorBits
  /-- `HUM` (R15). -/
  hum : Word
  /-- `TMP` (R15). -/
  tmp : Word
  /-- `CHK` (R15). -/
  chk : Byte
  /-- `SAMPLE[0..8]` (R16). -/
  sample : Vector Word 9
  /-- `VALUE` (R17). -/
  value : Word
  /-- `RTYPE` (R18). -/
  rtype : ReqType
  /-- `MSEQ` (R19). -/
  mseq : MSeq
  /-- `SDSEQ` (R20). -/
  sdseq : SdSeq
  /-- `BITIDX` (R21). -/
  bitIdx : Nat
  /-- `SMPIDX` (R21). -/
  smpIdx : Nat
  /-- `BYTEIDX` (R21). -/
  byteIdx : Nat
  /-- `DSTATE` (R22). -/
  dstate : DState
  /-- `CRC_OK` (R23). -/
  crcOk : Bool
  /-- `CHK_OK` (R23). -/
  chkOk : Bool
  /-- `INDICATOR`, true = on (R24). -/
  indicator : Bool
  /-- `SLAVE_ADDR` (R25). -/
  slaveAddr : Byte
  /-- `NOTIFY_EN` (R26). -/
  notifyEn : Bool
  /-- `RX_EN` (R27). -/
  rxEn : Bool
  /-- `PIN_MODE` (R28). -/
  pinMode : PinMode
  /-- `PIN_OUT`, true = high (R28). -/
  pinOut : Bool
  /-- `RXQ`, oldest byte first (R31, R66). -/
  rxq : List Byte
  /-- `TXLOG`, oldest byte first (R31, R43). -/
  txlog : List Byte
  /-- The sensor's answers to the `PinRead()`s to come, oldest first (R31, R45): a stimulus (R34). -/
  pinq : List Bool
  /-- Model's own: the open parameters of this block (R5). No step writes it. -/
  cfg : Config
  /-- Model's own: how far MAIN is inside its current operation; 0 is before its first statement (R19, decision D1). -/
  sub : Nat
  /-- Model's own: the record of events and of the pin, delay and diagnostic activity, oldest first. No step reads it. -/
  trace : List Obs
  /-- Model's own: the turns to come (R59): a stimulus. -/
  sched : List Turn
  /-- Model's own: how many free values have been drawn (U9, R65). -/
  tick : Nat
  deriving DecidableEq, Repr

/-- HTM-CORE has no trap and no fatal error (R160): no step ends in a fault, and this type has no constructor. -/
inductive Fault where
  deriving DecidableEq, Repr

/-- The reasons an operation is given no meaning. -/
inductive Refusal where
  /-- Raised by an arm of `exec` that has no meaning yet (there is none). Safe: nothing is claimed. -/
  | notModelled (mnemonic : String)
  /-- Raised by `CRC16.compute` when `length` exceeds the bytes given (U21 says refuse). Safe. -/
  | crcLengthBeyondBytes
  /-- Raised by `SE.sampleMedian` and `MAIN.sampleStep` for the request type `Unknown` (R156, U15 say refuse). Safe. -/
  | sampleUnknownType
  deriving DecidableEq, Repr

/-- The outcome of an operation or a step. -/
abbrev Result := Host.Outcome State Fault Refusal

/-- The state after reset and boot (R33, R190, R191) of a block with slave address `a` and parameters `c`. The registers R33
leaves unspecified hold the values assumption log 5 names. -/
def State.resetWith (a : Byte) (c : Config) : State :=
  { crc := 0
    req := Vector.replicate 8 0
    rsp := Vector.replicate 7 0
    sbit := 0
    hum := 0
    tmp := 0
    chk := 0
    sample := Vector.replicate 9 0
    value := 0
    rtype := .unknown
    mseq := .poll
    sdseq := .idle
    bitIdx := 0
    smpIdx := 0
    byteIdx := 0
    dstate := .idle
    crcOk := false
    chkOk := false
    indicator := false
    slaveAddr := a
    notifyEn := true
    rxEn := true
    pinMode := .input
    pinOut := false
    rxq := []
    txlog := []
    pinq := []
    cfg := c
    sub := 0
    trace := []
    sched := []
    tick := 0 }

/-- The state after reset, with the configuration assumption log 6 names. -/
def State.reset : State := State.resetWith Config.slaveAddr Config.default

end Sys2Proof.Machine
end

