-- ==== Sys2Proof/Machine/Flags.lean ====
section
/-! DEFINITION. Every flag computation: `CRC_OK` (spec/41_frame_codec.md rule R100), `CHK_OK` with the sensor checksums of
spec/43_sensor_driver.md rule R135, and the notification condition (spec/60_exceptions.md rule R169). -/

namespace Sys2Proof.Machine

/-- `CRC_OK`: both trailer bytes match the computed word, low byte first (R100). -/
def crcOkOf (req : Vector Byte 8) (c : Word) : Bool :=
  req[6] == loByte c && req[7] == hiByte c

/-- The sum of the four data bytes, in the naturals (R140). -/
def dataSum (h t : Word) : Nat :=
  (hiByte h).toNat + (loByte h).toNat + (hiByte t).toNat + (loByte t).toNat

/-- `SUM4` (R135). -/
def sum4 (h t : Word) : Byte := BitVec.ofNat 8 (dataSum h t % 256)

/-- `SUM4_EAC`, the end-around carry (R135). -/
def sum4Eac (h t : Word) : Byte :=
  let s := dataSum h t
  let f := s % 256 + s / 256
  BitVec.ofNat 8 (f % 256 + f / 256)

/-- `SENSOR_CHK(HUM, TMP)` (R135). -/
def sensorChk (k : SensorChk) (h t : Word) : Byte :=
  match k with
  | .sum4 => sum4 h t
  | .sum4Eac => sum4Eac h t
  | .other n => Config.otherChk n h t

/-- `CHK_OK` (R135). -/
def chkOkOf (k : SensorChk) (h t : Word) (c : Byte) : Bool := sensorChk k h t == c

/-- The notification is pending: the receiver is on and a byte waits (R169). -/
def State.notifyPending (s : State) : Bool := s.rxEn && !s.rxq.isEmpty

/-- The notification condition: pending and enabled (R169). -/
def State.notifyReady (s : State) : Bool := s.notifyEn && s.notifyPending

end Sys2Proof.Machine
end

