-- ==== Sys2Proof/Machine/Ops.lean ====
section
/-! DEFINITION. The named operations over registers and interfaces: the primitives of spec/20_memory.md rules R42 to R47, the
receiver flush (R67), the master's bytes (R66), the notification entry (spec/42_dispatcher.md rule R110, spec/60_exceptions.md
rules R171, R172) and running an operation statement by statement. -/

namespace Sys2Proof.Machine

/-- Record an observation. -/
def State.log (s : State) (o : Obs) : State := { s with trace := s.trace ++ [o] }

/-- `raise EV_x(info)`: the event is recorded and control goes on (R160). -/
def State.raise (s : State) (e : Event) : State := s.log (.event e)

/-- `Delay(t)`: no state of HTM-CORE changes (R46). -/
def State.delay (s : State) (d : Duration) : State := s.log (.delay d)

/-- `Diag(kind)`: no state of HTM-CORE changes (R47). -/
def State.diag (s : State) (k : DiagKind) : State := s.log (.diag k)

/-- `MSEQ <- m`: the operation ends, and MAIN stands before the first statement of the next one (R7, R122). -/
def State.goto (s : State) (m : MSeq) : State := { s with mseq := m, sub := 0 }

/-- `SDSEQ <- q` (R7, R137). -/
def State.sdGoto (s : State) (q : SdSeq) : State := { s with sdseq := q }

/-- `RxRead()` on a non-empty queue: the oldest byte, removed. None: the caller does not advance (R42). -/
def State.rxRead (s : State) : Option (Byte × State) :=
  match s.rxq with
  | [] => none
  | b :: q => some (b, { s with rxq := q })

/-- `TxWrite(b)` (R43). -/
def State.txWrite (s : State) (b : Byte) : State := { s with txlog := s.txlog ++ [b] }

/-- `PinMode(m)` (R45). -/
def State.setPinMode (s : State) (m : PinMode) : State :=
  ({ s with pinMode := m } : State).log (.pinMode m)

/-- `PinDrive(l)`, High = true (R45). -/
def State.drivePin (s : State) (high : Bool) : State :=
  ({ s with pinOut := high } : State).log (.pinDrive high)

/-- `PinRead()` (R45): the driven level in output mode; in input mode the stimulus's next answer, and where it holds none, a
free value. -/
def State.pinRead (s : State) : Bool × State :=
  match s.pinMode with
  | .output => (s.pinOut, s)
  | .input =>
    match s.pinq with
    | [] => (Config.pinLevel s.tick, { s with tick := s.tick + 1 })
    | b :: q => (b, { s with pinq := q })

/-- MASTER sends a byte: appended while the receiver is on, lost while it is off (R66, R67). -/
def State.masterSend (s : State) (b : Byte) : State :=
  if s.rxEn then { s with rxq := s.rxq ++ [b] } else s

/-- MASTER sends bytes in order. -/
def State.masterSendAll (s : State) (bytes : List Byte) : State := bytes.foldl State.masterSend s

/-- `RX_EN <- 0`: every byte in the queue is discarded (R67). -/
def State.rxOff (s : State) : State := { s with rxEn := false, rxq := [] }

/-- `RX_EN <- 1` (R67). -/
def State.rxOn (s : State) : State := { s with rxEn := true }

/-- The classification of a byte read by the handler (R57, R110): plain equality. -/
def classify (slave b : Byte) : DState :=
  if b = slave then .addressMatched else .addressMismatched

/-- Taking the notification: the handler's four statements as one step (R60, R110, R171). Nothing is saved; the return is
implicit, MAIN stands where it stood (R172). On an empty queue nothing is read and the handler does not run. -/
def State.takeNotification (s : State) : State :=
  match s.rxq with
  | [] => s
  | b :: q =>
    { s with
      rxq := q
      req := s.req.set 0 b
      dstate := classify s.slaveAddr b
      notifyEn := false }

/-- The reset event (R190): every register takes its value of R33, the receive queue and the transmit log are empty. The
configuration stays; so do the model's stimuli, its count of free values and its record. -/
def State.resetEvent (s : State) : State :=
  { State.resetWith s.slaveAddr s.cfg with
    pinq := s.pinq
    trace := s.trace
    sched := s.sched
    tick := s.tick }

/-- Pass to the next statement of the current operation. -/
def State.nextSub (s : State) : State := { s with sub := s.sub + 1 }

/-- The statements of an operation that remain at the current position. A position past the last statement, which no run
reaches, counts as the last. -/
def remaining (stmts : List (State → State)) (sub : Nat) : List (State → State) :=
  stmts.drop (min sub (stmts.length - 1))

/-- Perform all the statements that remain. -/
def runStmts (stmts : List (State → State)) (s : State) : State :=
  (remaining stmts s.sub).foldl (fun t f => f t) s

/-- Perform the next statement only. -/
def oneStmt (stmts : List (State → State)) (s : State) : State :=
  match remaining stmts s.sub with
  | [] => s
  | f :: _ => f s

end Sys2Proof.Machine
end

