-- ==== Sys2Proof/Machine/Crc16.lean ====
section
/-! DEFINITION. The meaning of `CRC16.compute` (spec/40_crc16.md rule R90). -/

namespace Sys2Proof.Machine

/-- The engine run on `bytes`: the register is set to 0xFFFF and folded over the first `length` bytes; `CRC` and `BYTEIDX` are
the only registers written (R11, R90). -/
def State.computeCrc (s : State) (bytes : List Byte) (length : Nat) : State :=
  { s with crc := crc16 bytes length, byteIdx := length }

/-- `CRC16.compute(bytes, length)` (R90), for a sequence of at least `length` bytes (U21). -/
def execCrc16Compute (bytes : List Byte) (length : Nat) (s : State) : Result :=
  if length ≤ bytes.length then .next (s.computeCrc bytes length) else .refused .crcLengthBeyondBytes

end Sys2Proof.Machine
end

