-- ==== Sys2Proof/Machine/FrameCodec.lean ====
section
/-! DEFINITION. The Frame Codec: `FC.validate`, `FC.decodeRequestType`, `FC.encodeResponse` (spec/41_frame_codec.md rules R100
to R102). -/

namespace Sys2Proof.Machine

/-- `CRC_OK <- validate(REQ)` (R100). -/
def State.validate (s : State) : State :=
  let s := s.computeCrc s.req.toList 6
  { s with crcOk := crcOkOf s.req s.crc }

/-- `RTYPE <- decodeRequestType(REQ)`, from byte 3 only (R101). -/
def State.decodeType (s : State) : State := { s with rtype := requestTypeOf s.req[3] }

/-- The seven bytes of `encodeResponse(address, value)` (R102). -/
def responseFrame (address : Byte) (value : Word) : Vector Byte 7 :=
  let c := crc16 (responseBody address value) 5
  #v[address, funcCode, byteCount, hiByte value, loByte value, loByte c, hiByte c]

/-- `RSP <- encodeResponse(address, value)` (R102). -/
def State.encodeResponse (s : State) (address : Byte) (value : Word) : State :=
  { s.computeCrc (responseBody address value) 5 with rsp := responseFrame address value }

/-- `FC.validate` (R100). -/
def execFcValidate (s : State) : Result := .next s.validate

/-- `FC.decodeRequestType` (R101). -/
def execFcDecodeRequestType (s : State) : Result := .next s.decodeType

/-- `FC.encodeResponse` (R102). -/
def execFcEncodeResponse (address : Byte) (value : Word) (s : State) : Result :=
  .next (s.encodeResponse address value)

end Sys2Proof.Machine
end

