-- ==== Sys2Proof/Machine/SensorDriver.lean ====
section
/-! DEFINITION. The Sensor Driver: `SD.acquire` (spec/43_sensor_driver.md rules R130 to R139). Every busy-poll evaluates one
`PinRead()` at a time (R7); an acquisition whose answers run out stays in its poll, and its next step reads again (R138). -/

namespace Sys2Proof.Machine

/-- The part of the state the pin reads drive. -/
structure Acq where
  seq : SdSeq
  idx : Nat
  bits : SensorBits
  trace : List Obs
  deriving DecidableEq, Repr

def State.acq (s : State) : Acq :=
  { seq := s.sdseq, idx := s.bitIdx, bits := s.sbit, trace := s.trace }

def State.setAcq (s : State) (a : Acq) : State :=
  { s with sdseq := a.seq, bitIdx := a.idx, sbit := a.bits, trace := a.trace }

/-- The driver stands at a statement that reads the pin. -/
def SdSeq.reads : SdSeq → Bool
  | .prep _ => true
  | .data .a => true
  | .data .c => true
  | .data .d => true
  | .data .asm => false
  | .idle => false
  | .start _ => false
  | .done => false
  | .fail => false

/-- One `PinRead()` answered by `level`, and what it decides: a poll goes on or ends (R132, R133 `A`, `D`), a sample is stored
(R133 `C`). `A`'s end is followed by the delay `B`. `lowWait` is `PREP_LOW_WAIT`: with it the poll `P2` stands between the two
waits-while-high (decision D6). -/
def Acq.feed (lowWait : Bool) (a : Acq) (level : Bool) : Acq :=
  match a.seq with
  | .prep .p1 => if level then a else { a with seq := .prep (if lowWait then .p2 else .p3) }
  | .prep .p2 => if level then { a with seq := .prep .p3 } else a
  | .prep .p3 => if level then a else { a with seq := .data .a, idx := 0 }
  | .data .a => if level then { a with seq := .data .c, trace := a.trace ++ [.delay .sample] } else a
  | .data .c => { a with seq := .data .d, bits := setStreamBit a.bits a.idx level }
  | .data .d =>
    if level then a
    else if a.idx + 1 < 40 then { a with seq := .data .a, idx := a.idx + 1 }
    else { a with seq := .data .asm, idx := 40 }
  | .data .asm => a
  | .idle => a
  | .start _ => a
  | .done => a
  | .fail => a

/-- Answer reads from a list until the driver reads no more or the list ends; what is left of the list is returned. -/
def Acq.run (lowWait : Bool) (a : Acq) : List Bool → Acq × List Bool
  | [] => (a, [])
  | l :: ls => if a.seq.reads then Acq.run lowWait (a.feed lowWait l) ls else (a, l :: ls)

/-- One read of the pin (R45) and its consequence. -/
def State.pollOnce (s : State) : State :=
  s.pinRead.2.setAcq (s.acq.feed s.cfg.prepLowWait s.pinRead.1)

/-- The reads that the stimulus answers, all of them until the stream is complete. -/
def State.pollAll (s : State) : State :=
  { s.setAcq (s.acq.run s.cfg.prepLowWait s.pinq).1 with pinq := (s.acq.run s.cfg.prepLowWait s.pinq).2 }

/-- The reads of an acquisition as far as the sensor's answers reach, at least one. -/
def State.polls (s : State) : State :=
  if s.sdseq.reads then
    if s.pinMode = .input ∧ s.pinq ≠ [] then s.pollAll else s.pollOnce
  else s

/-- One statement of StartPulse (R131): drive high for `T_WAKE`, low for `T_START`, high for `T_RELEASE`, then input mode. -/
def State.startStmt (s : State) : StartStmt → State
  | .wake => (((s.setPinMode .output).drivePin true).delay .wake).sdGoto (.start .low)
  | .low => ((s.drivePin false).delay .start).sdGoto (.start .release)
  | .release => ((s.drivePin true).delay .release).sdGoto (.start .input)
  | .input => (s.setPinMode .input).sdGoto (.prep .p1)

/-- What remains of StartPulse (R131, R137): all of it from `SD_IDLE`, nothing past `SD_START`. -/
def State.startPulse (s : State) : State :=
  match s.sdseq with
  | .idle => (((s.startStmt .wake).startStmt .low).startStmt .release).startStmt .input
  | .start .wake => (((s.startStmt .wake).startStmt .low).startStmt .release).startStmt .input
  | .start .low => ((s.startStmt .low).startStmt .release).startStmt .input
  | .start .release => (s.startStmt .release).startStmt .input
  | .start .input => s.startStmt .input
  | .prep _ => s
  | .data _ => s
  | .done => s
  | .fail => s

/-- Assembly (R134): each register completely, first bit most significant. -/
def State.assemble (s : State) : State :=
  { s with hum := streamHum s.sbit, tmp := streamTmp s.sbit, chk := streamChk s.sbit }

/-- The checksum test (R135). -/
def State.testChecksum (s : State) : State :=
  { s with chkOk := chkOkOf s.cfg.sensorChk s.hum s.tmp s.chk }

/-- `SD_DONE`, or the soft fail: both readings forced to zero (R136). -/
def State.softFail (s : State) : State :=
  if s.chkOk then s.sdGoto .done
  else (({ s with hum := 0, tmp := 0 } : State).sdGoto .fail).raise (.sensorChk s.chk)

/-- What follows the last read of an acquisition: R134, R135, R136. -/
def State.finishStream (s : State) : State := s.assemble.testChecksum.softFail

/-- The return of an acquisition that has its stream: `SDSEQ <- SD_IDLE` (R130, R137). -/
def State.acquireReturn (s : State) : State :=
  match s.sdseq with
  | .data .asm => s.finishStream.sdGoto .idle
  | .done => s.sdGoto .idle
  | .fail => s.sdGoto .idle
  | .data .a => s
  | .data .c => s
  | .data .d => s
  | .prep _ => s
  | .start _ => s
  | .idle => s

/-- One acquisition, from wherever the driver stands, as far as the answers reach (R130). It has returned when `SDSEQ` is
`SD_IDLE`. -/
def State.acquire (s : State) : State := s.startPulse.polls.acquireReturn

/-- `SD.acquire` (R130). It runs whether or not the sampling calls it: the model's choice (log 29). -/
def execSdAcquire (s : State) : Result := .next s.acquire

/-- One statement of the driver (R55): the call, one line of StartPulse, one read, or the assembly with its test. -/
def State.sdStmt (s : State) : State :=
  match s.sdseq with
  | .idle => s.sdGoto (.start .wake)
  | .start k => s.startStmt k
  | .prep _ => s.pollOnce
  | .data .a => s.pollOnce
  | .data .c => s.pollOnce
  | .data .d => s.pollOnce
  | .data .asm => s.finishStream
  | .done => s.sdGoto .idle
  | .fail => s.sdGoto .idle

end Sys2Proof.Machine
end

