-- ==== Sys2Proof/Machine/SamplingEngine.lean ====
section
/-! DEFINITION. The Sampling Engine: `SE.sampleMedian` (spec/44_sampling_engine.md rules R150 to R157). -/

namespace Sys2Proof.Machine

/-- `N`, the number of readings (R29, R154). -/
def sampleCount : Nat := 9

/-- The reading kept of an acquisition (R150). -/
def State.reading (s : State) (t : ReqType) : Word :=
  if t = .temperature then s.tmp else s.hum

/-- The end of one pass of R150's loop: keep the reading, wait the cooldown where one follows (R155), count. -/
def State.keepReading (s : State) (t : ReqType) : State :=
  let kept := { s with sample := s.sample.setIfInBounds s.smpIdx (s.reading t) }
  let waited := if s.smpIdx < 8 ∨ s.cfg.cooldownAfterLast then kept.delay .cooldown else kept
  { waited with smpIdx := s.smpIdx + 1 }

/-- `n` passes of the loop. A pass whose acquisition has not returned ends the run where it stands. -/
def State.passes : Nat → ReqType → State → State
  | 0, _, s => s
  | n + 1, t, s =>
    let a := s.acquire
    if a.sdseq = .idle then (a.keepReading t).passes n t else a

/-- The start of the loop: `SMPIDX` is 0. -/
def State.beginSample (s : State) : State :=
  if s.sub = 0 then { s with smpIdx := 0, sub := 1 } else s

/-- The sort and the median (R151): index 4 of the descending sort. The operation ends. -/
def State.takeMedian (s : State) : State :=
  let sorted := sortSample s.sample
  { s with sample := sorted, value := sorted[4], sub := 0 }

/-- All nine passes are done. -/
def State.sampled (s : State) : Bool := decide (sampleCount ≤ s.smpIdx ∧ s.sdseq = .idle)

/-- After the passes: the sort and the median when all nine are done. -/
def State.endSample (s : State) : State := if s.sampled then s.takeMedian else s

/-- `sampleMedian(t)` from wherever the engine stands, as far as the sensor's answers reach. It has returned when `sub` is 0. -/
def State.sampleMedian (s : State) (t : ReqType) : State :=
  (s.beginSample.passes (sampleCount - s.beginSample.smpIdx) t).endSample

/-- `SE.sampleMedian` (R150). The type `Unknown` has no meaning (R156). Where `MSEQ` does not select it, it runs all the same:
the model's choice (log 29). -/
def execSeSampleMedian (t : ReqType) (s : State) : Result :=
  if t = .unknown then .refused .sampleUnknownType else .next (s.sampleMedian t)

/-- One statement of the engine (R55): the loop's start, one statement of the driver, the end of a pass, or the sort. -/
def State.seStmt (s : State) (t : ReqType) : State :=
  if s.sub = 0 then s.beginSample
  else if s.sampled then s.takeMedian
  else
    match s.sdseq with
    | .done => s.sdStmt.keepReading t
    | .fail => s.sdStmt.keepReading t
    | .idle => s.sdStmt
    | .start _ => s.sdStmt
    | .prep _ => s.sdStmt
    | .data _ => s.sdStmt

end Sys2Proof.Machine
end

