-- ==== Sys2Proof/Machine/Dispatcher.lean ====
section
/-! DEFINITION. The Dispatcher: the handler and the operations of the main loop (spec/42_dispatcher.md rules R110 to R123),
each as a whole, and MAIN one statement at a time. -/

namespace Sys2Proof.Machine

/-- `DISP.notify` (R110): the handler runs when the notification condition of R169 holds, and not otherwise. -/
def execDispNotify (s : State) : Result :=
  .next (if s.notifyReady then s.takeNotification else s)

/-- The branch of R111. -/
def pollTarget : DState → MSeq
  | .addressMatched => .read
  | .addressMismatched => .mismatch
  | .idle => .poll

/-- The atomic read-and-reset of `DSTATE` and the branch on it (R62, R111). -/
def State.poll (s : State) : State := ({ s with dstate := .idle } : State).goto (pollTarget s.dstate)

/-- `MAIN.poll` (R111, R121). Where `MSEQ` does not select it, it runs all the same: the model's choice (log 29). -/
def execMainPoll (s : State) : Result := .next s.poll

/-- The start of R112's loop: `BYTEIDX` is 1. -/
def State.beginRead (s : State) : State :=
  if s.sub = 0 then { s with byteIdx := 1, sub := 1 } else s

/-- `n` passes of R112's loop; on an empty queue MAIN stays where it is (R42, R53). -/
def State.readBytes : Nat → State → State
  | 0, s => s
  | n + 1, s =>
    match s.rxRead with
    | none => s
    | some (b, t) => readBytes n { t with req := t.req.setIfInBounds t.byteIdx b, byteIdx := t.byteIdx + 1 }

/-- After the passes: the transition when all seven bytes are read. -/
def State.endRead (s : State) : State := if 8 ≤ s.byteIdx then s.goto .indOn else s

/-- `MAIN.readFrame` from wherever its loop stands, as far as the queue reaches (R112). -/
def State.readFrame (s : State) : State :=
  (s.beginRead.readBytes (8 - s.beginRead.byteIdx)).endRead

/-- `MAIN.readFrame` (R112). Where `MSEQ` does not select it, it runs all the same: the model's choice (log 29). -/
def execMainReadFrame (s : State) : Result := .next s.readFrame

/-- `INDICATOR <- 1 ; MSEQ <- M_VALIDATE` (R113). -/
def indicatorOnStmts : List (State → State) :=
  [fun s => ({ s with indicator := true } : State).nextSub, fun s => s.goto .validate]

/-- `MAIN.indicatorOn` (R113). Where `MSEQ` does not select it, it runs all the same: the model's choice (log 29). -/
def execMainIndicatorOn (s : State) : Result := .next (runStmts indicatorOnStmts s)

/-- Where MAIN goes when a matched frame is discarded (R114, R115, decision D10). -/
def State.discard (s : State) : State := s.goto (if s.cfg.paceOnDiscard then .pace else .rearm)

/-- The branch of R114 on `CRC_OK`: on a mismatch the event names the frame, and the frame is discarded. -/
def State.branchOnCrc (s : State) : State :=
  if s.crcOk then s.goto .decode
  else ((s.raise (.crcMismatch s.req)).diag .crcMismatch).discard

/-- The validation step (R114). -/
def State.validateStep (s : State) : State := s.validate.branchOnCrc

/-- `MAIN.validateStep` (R114). Where `MSEQ` does not select it, it runs all the same: the model's choice (log 29). -/
def execMainValidateStep (s : State) : Result := .next s.validateStep

/-- The branch of R115 on `RTYPE`: an unknown type is discarded without sampling (decision D9). -/
def State.branchOnType (s : State) : State :=
  if s.rtype = .unknown then (s.raise (.unknownType s.req[3])).discard else s.goto .sample

/-- The decode step (R115). -/
def State.decodeStep (s : State) : State := s.decodeType.branchOnType

/-- `MAIN.decodeStep` (R115). Where `MSEQ` does not select it, it runs all the same: the model's choice (log 29). -/
def execMainDecodeStep (s : State) : Result := .next s.decodeStep

/-- The transition of R122 out of `M_SAMPLE`, made when the engine has returned. -/
def State.leaveSample (s : State) : State := if s.sub = 0 then s.goto .encode else s

/-- `VALUE <- SE.sampleMedian(RTYPE) ; MSEQ <- M_ENCODE` (R116). -/
def State.sampleStep (s : State) : State := (s.sampleMedian s.rtype).leaveSample

/-- `MAIN.sampleStep` (R116). `RTYPE` is never `Unknown` here; the engine has no meaning for it (R156). Where `MSEQ` does not
select it, it runs all the same: the model's choice (log 29). -/
def execMainSampleStep (s : State) : Result :=
  if s.rtype = .unknown then .refused .sampleUnknownType else .next s.sampleStep

/-- `RSP <- FC.encodeResponse(REQ[0], VALUE) ; MSEQ <- M_SEND` (R117). -/
def State.encodeStep (s : State) : State := (s.encodeResponse s.req[0] s.value).goto .send

/-- `MAIN.encodeStep` (R117). Where `MSEQ` does not select it, it runs all the same: the model's choice (log 29). -/
def execMainEncodeStep (s : State) : Result := .next s.encodeStep

/-- The start of R118's loop: `BYTEIDX` is 0. -/
def State.beginSend (s : State) : State :=
  if s.sub = 0 then { s with byteIdx := 0, sub := 1 } else s

/-- One pass of R118's loop. -/
def State.sendByte (s : State) : State :=
  { s.txWrite (s.rsp[s.byteIdx]?.getD 0) with byteIdx := s.byteIdx + 1 }

/-- `n` passes of R118's loop. -/
def State.sendBytes : Nat → State → State
  | 0, s => s
  | n + 1, s => s.sendByte.sendBytes n

/-- `MAIN.send` from wherever its loop stands (R118). A byte is always accepted (R43, decision D26). -/
def State.send (s : State) : State :=
  (s.beginSend.sendBytes (7 - s.beginSend.byteIdx)).goto .pace

/-- `MAIN.send` (R118). Where `MSEQ` does not select it, it runs all the same: the model's choice (log 29). -/
def execMainSend (s : State) : Result := .next s.send

/-- `M_PACE: Delay(T_PACE) ; MSEQ <- M_REARM` (R119). -/
def State.paceStep (s : State) : State := (s.delay .pace).goto .rearm

/-- `M_REARM: NOTIFY_EN <- 1 ; MSEQ <- M_POLL` (R119). -/
def rearmStmts : List (State → State) :=
  [fun s => ({ s with notifyEn := true } : State).nextSub, fun s => s.goto .poll]

/-- `MAIN.paceRearm` (R119): from `M_REARM` the re-arming, from `M_PACE` (its start) the delay and then the re-arming. Where
`MSEQ` does not select it, it runs all the same: the model's choice (log 29). Then it starts at the delay. -/
def execMainPaceRearm (s : State) : Result :=
  .next (if s.mseq = .rearm then runStmts rearmStmts s else runStmts rearmStmts s.paceStep)

/-- The mismatch path in the source's order (R120, decision D33). -/
def mismatchStmts : List (State → State) :=
  [ fun s => (s.raise (.addrMismatch s.req[0])).nextSub,
    fun s => ({ s with indicator := false } : State).nextSub,
    fun s => s.rxOff.nextSub,
    fun s => s.rxOn.nextSub,
    fun s => (s.diag .addressMismatch).nextSub,
    fun s => ({ s with notifyEn := true } : State).nextSub,
    fun s => s.goto .poll ]

/-- `MAIN.mismatch` (R120). Where `MSEQ` does not select it, it runs all the same: the model's choice (log 29). -/
def execMainMismatch (s : State) : Result := .next (runStmts mismatchStmts s)

/-- MAIN performs the operation its sequencer selects (R19, R84, R122). -/
def mainOp (s : State) : Result :=
  match s.mseq with
  | .poll => execMainPoll s
  | .read => execMainReadFrame s
  | .indOn => execMainIndicatorOn s
  | .validate => execMainValidateStep s
  | .decode => execMainDecodeStep s
  | .sample => execMainSampleStep s
  | .encode => execMainEncodeStep s
  | .send => execMainSend s
  | .pace => execMainPaceRearm s
  | .rearm => execMainPaceRearm s
  | .mismatch => execMainMismatch s

/-- One statement of `MAIN.readFrame`: the loop's start, one read, or the transition. On an empty queue MAIN stays. -/
def State.readStmt (s : State) : State :=
  if s.sub = 0 then s.beginRead
  else if 8 ≤ s.byteIdx then s.goto .indOn
  else s.readBytes 1

/-- One statement of `MAIN.send`: the loop's start, one byte, or the transition. -/
def State.sendStmt (s : State) : State :=
  if s.sub = 0 then s.beginSend
  else if 7 ≤ s.byteIdx then s.goto .pace
  else s.sendByte

/-- One statement of `MAIN.sampleStep`: one of the engine's, and the transition with its last. -/
def State.sampleStmt (s : State) : State := (s.seStmt s.rtype).leaveSample

/-- MAIN performs one statement (R55, decision D19). A call of the Frame Codec is one statement. -/
def mainStmt (s : State) : Result :=
  match s.mseq with
  | .poll => .next s.poll
  | .read => .next s.readStmt
  | .indOn => .next (oneStmt indicatorOnStmts s)
  | .validate => .next s.validateStep
  | .decode => .next s.decodeStep
  | .sample => if s.rtype = .unknown then .refused .sampleUnknownType else .next s.sampleStmt
  | .encode => .next s.encodeStep
  | .send => .next s.sendStmt
  | .pace => .next s.paceStep
  | .rearm => .next (oneStmt rearmStmts s)
  | .mismatch => .next (oneStmt mismatchStmts s)

end Sys2Proof.Machine
end

