-- ==== Sys2Proof/Machine/Frames.lean ====
section
/-! DEFINITION. The meanings of the encoded rows (spec/30_encoding.md rule R77): what HTM-CORE does with a whole request frame,
from the notification to the re-arming that follows it; the emission of a response; and the use of a sampled stream. Each is
composed of the operations of the other families. -/

namespace Sys2Proof.Machine

/-- The core can take a new request now: MAIN polls, nothing is classified, the notification and the receiver are on (the
quiescent state of R193 but for the queue). -/
def State.ready (s : State) : Bool :=
  decide (s.mseq = .poll ∧ s.dstate = .idle) && (s.notifyEn && s.rxEn)

/-- Run MAIN's operations until it polls again, or until one of them waits for its inputs. -/
def cycle : Nat → State → Result
  | 0, s => .next s
  | n + 1, s =>
    match mainOp s with
    | .next t => if t.mseq = .poll ∨ t.mseq = s.mseq then .next t else cycle n t
    | .fault r => .fault r
    | .refused r => .refused r

/-- The longest path of R122 from `M_POLL` back to it has nine operations. -/
def cycleLength : Nat := 9

/-- The core takes the frame: the handler reads its first byte and MAIN does the rest (R9 "cycle"). A core that is not ready
takes nothing yet: the bytes wait in the queue (R66, R199). -/
def takeFrame (bytes : List Byte) (s : State) : Result :=
  if s.ready then cycle cycleLength ({ s with rxq := bytes ++ s.rxq } : State).takeNotification
  else .next (s.masterSendAll bytes)

/-- `REQ.TEMP`: nine temperature readings, the median, one response (R116). -/
def execReqTemp (address rsv1 rsv2 rsv4 rsv5 : Byte) (s : State) : Result :=
  takeFrame (encode (.reqTemp address rsv1 rsv2 rsv4 rsv5)) s

/-- `REQ.HUM`: nine humidity readings, the median, one response (R116). -/
def execReqHum (address rsv1 rsv2 rsv4 rsv5 : Byte) (s : State) : Result :=
  takeFrame (encode (.reqHum address rsv1 rsv2 rsv4 rsv5)) s

/-- `REQ.UNK`: no sampling and no transmission (R115, decision D9). -/
def execReqUnk (address rsv1 rsv2 requestType rsv4 rsv5 : Byte) (s : State) : Result :=
  takeFrame (encode (.reqUnk address rsv1 rsv2 requestType rsv4 rsv5)) s

/-- `REQ.BADCRC`: the frame is discarded (R114). -/
def execReqBadCrc (address rsv1 rsv2 requestType rsv4 rsv5 crcLo crcHi : Byte) (s : State) : Result :=
  takeFrame (encode (.reqBadCrc address rsv1 rsv2 requestType rsv4 rsv5 crcLo crcHi)) s

/-- `REQ.OTHER`: the mismatch path (R120). -/
def execReqOther (address : Byte) (s : State) : Result := takeFrame (encode (.reqOther address)) s

/-- `RSP.VALUE`: the response is built (R102) and its seven bytes are transmitted (R118). -/
def execRspValue (address : Byte) (value : Word) (s : State) : Result :=
  .next ((s.encodeResponse address value).goto .send).send

/-- `STR.DATA`: forty sampled bits are assembled, tested, and zeroed on a mismatch (R134 to R136). -/
def execStrData (humidity temperature : Word) (checksum : Byte) (s : State) : Result :=
  .next ({ s with sbit := streamOf humidity temperature checksum, bitIdx := 40 } : State).finishStream

end Sys2Proof.Machine
end

