-- ==== Sys2Proof/Machine/Dispatch.lean ====
section
/-! DEFINITION. One arm per constructor of `Instr`. -/

namespace Sys2Proof.Machine

def exec (i : Instr) (s : State) : Host.Outcome State Fault Refusal :=
  match i with
  | .reqTemp a r1 r2 r4 r5 => Sys2Proof.Machine.execReqTemp a r1 r2 r4 r5 s
  | .reqHum a r1 r2 r4 r5 => Sys2Proof.Machine.execReqHum a r1 r2 r4 r5 s
  | .reqUnk a r1 r2 t r4 r5 => Sys2Proof.Machine.execReqUnk a r1 r2 t r4 r5 s
  | .reqBadCrc a r1 r2 t r4 r5 lo hi => Sys2Proof.Machine.execReqBadCrc a r1 r2 t r4 r5 lo hi s
  | .reqOther a => Sys2Proof.Machine.execReqOther a s
  | .rspValue a v => Sys2Proof.Machine.execRspValue a v s
  | .strData h t c => Sys2Proof.Machine.execStrData h t c s
  | .crc16Compute bytes length => Sys2Proof.Machine.execCrc16Compute bytes length s
  | .fcValidate => Sys2Proof.Machine.execFcValidate s
  | .fcDecodeRequestType => Sys2Proof.Machine.execFcDecodeRequestType s
  | .fcEncodeResponse a v => Sys2Proof.Machine.execFcEncodeResponse a v s
  | .dispNotify => Sys2Proof.Machine.execDispNotify s
  | .mainPoll => Sys2Proof.Machine.execMainPoll s
  | .mainReadFrame => Sys2Proof.Machine.execMainReadFrame s
  | .mainIndicatorOn => Sys2Proof.Machine.execMainIndicatorOn s
  | .mainValidateStep => Sys2Proof.Machine.execMainValidateStep s
  | .mainDecodeStep => Sys2Proof.Machine.execMainDecodeStep s
  | .mainSampleStep => Sys2Proof.Machine.execMainSampleStep s
  | .mainEncodeStep => Sys2Proof.Machine.execMainEncodeStep s
  | .mainSend => Sys2Proof.Machine.execMainSend s
  | .mainPaceRearm => Sys2Proof.Machine.execMainPaceRearm s
  | .mainMismatch => Sys2Proof.Machine.execMainMismatch s
  | .sdAcquire => Sys2Proof.Machine.execSdAcquire s
  | .seSampleMedian t => Sys2Proof.Machine.execSeSampleMedian t s

end Sys2Proof.Machine
end

