-- ==== Sys2Proof/Machine/Fetch.lean ====
section
/-! DEFINITION. Which instruction a turn of MAIN runs: the operation its sequencer selects (spec/30_encoding.md rule R84), or
the encoded row that stands at the core's decode point (rules R71 to R73, R77), and how a table word is laid there. -/

namespace Sys2Proof.Machine

/-- The operation `MSEQ` selects (R19, R84). -/
def selected (s : State) : Instr :=
  match s.mseq with
  | .poll => .mainPoll
  | .read => .mainReadFrame
  | .indOn => .mainIndicatorOn
  | .validate => .mainValidateStep
  | .decode => .mainDecodeStep
  | .sample => .mainSampleStep
  | .encode => .mainEncodeStep
  | .send => .mainSend
  | .pace => .mainPaceRearm
  | .rearm => .mainPaceRearm
  | .mismatch => .mainMismatch

/-- The encoded row at the decode point, and the state without the bytes it took. A ready core decodes its receive queue; in
`M_SAMPLE` with forty bits sampled, the driver decodes `SBIT`; in `M_ENCODE` the response of `REQ[0]` and `VALUE` is due.
Elsewhere, and while a frame is incomplete, MAIN's own operation runs. -/
def fetch (s : State) : Instr × State :=
  match s.mseq with
  | .poll =>
    if s.ready then
      match decode .req s.slaveAddr s.rxq with
      | .ok i rest => (i, { s with rxq := rest })
      | .rejected _ => (selected s, s)
    else (selected s, s)
  | .sample =>
    if s.sdseq = .data .asm then
      match decode .str s.slaveAddr (wireBytes 5 s.sbit.toNat) with
      | .ok i _ => (i, s)
      | .rejected _ => (selected s, s)
    else (selected s, s)
  | .encode => (.rspValue s.req[0] s.value, s)
  | .read => (selected s, s)
  | .indOn => (selected s, s)
  | .validate => (selected s, s)
  | .decode => (selected s, s)
  | .send => (selected s, s)
  | .pace => (selected s, s)
  | .rearm => (selected s, s)
  | .mismatch => (selected s, s)

/-- The state whose next step runs the encoded row of a table word: the bytes are laid where the row is decoded (a request in
the receive queue of a ready core, a stream in `SBIT` with its forty bits sampled, a response's fields in `REQ[0]` and `VALUE`
at `M_ENCODE`), and the next turn is the one that decodes. -/
def State.layWord (s : State) (nbits w : Nat) : State :=
  match formatOfWidth nbits with
  | .req =>
    { s with
      rxq := tableBytes s.slaveAddr nbits w ++ s.rxq
      mseq := .poll
      sub := 0
      dstate := .idle
      notifyEn := true
      rxEn := true
      sched := .transact :: s.sched }
  | .rsp =>
    { s with
      req := s.req.set 0 (BitVec.ofNat 8 (w >>> 48))
      value := BitVec.ofNat 16 (w >>> 16)
      mseq := .encode
      sub := 0
      sched := .transact :: s.sched }
  | .str =>
    { s with
      sbit := BitVec.ofNat 40 w
      bitIdx := 40
      mseq := .sample
      sub := 1
      sdseq := .data .asm
      sched := .transact :: s.sched }

end Sys2Proof.Machine
end

