-- ==== Sys2Proof/Machine/Turns.lean ====
section
/-! DEFINITION. What one turn of one agent does, and which turn is due (spec/20_memory.md rules R59, R60, R65). -/

namespace Sys2Proof.Machine

/-- What a turn does. -/
def act (t : Turn) (s : State) : Host.Outcome State Fault Refusal :=
  match t with
  | .master b => .next (s.masterSend b)
  | .handler => exec .dispNotify s
  | .stmt => mainStmt s
  | .main => exec (selected s) s
  | .transact => exec (fetch s).1 (fetch s).2
  | .reset => .next s.resetEvent

/-- The turn that is due, and the state with it taken off: the stimulus's next turn, or a free one where it names none. -/
def nextTurn (s : State) : Turn × State :=
  match s.sched with
  | [] => (Config.freeTurn s.tick, { s with tick := s.tick + 1 })
  | t :: ts => (t, { s with sched := ts })

end Sys2Proof.Machine
end

