-- ==== Sys2Proof/Machine/Step.lean ====
section
/-! DEFINITION. One step of the machine: one turn of one agent (spec/20_memory.md rules R59, R60). -/

namespace Sys2Proof.Machine

/-- One step. -/
def step (s : State) : Host.Outcome State Fault Refusal := act (nextTurn s).1 (nextTurn s).2

/-- `s` with a table word laid where the next step decodes it. -/
def State.withFetchWord (s : State) (nbits w : Nat) : State := s.layWord nbits w

end Sys2Proof.Machine
end

