-- ==== Sys2Proof/Safety.lean ====
section
/-! DEFINITION. The terms claims use: the machine's invariant, the quiescent state (spec/70_reset_and_hazards.md rule R193), the
sensor's duties as premises (spec/20_memory.md rule R65) and what an acquisition gives as a pure function of its stream
(spec/43_sensor_driver.md rule R139). -/

namespace Sys2Proof.Machine

/-! ### The invariant -/

/-- MAIN has re-armed, or has nothing in flight: the handler may run (R60). -/
def State.rearmed (s : State) : Prop :=
  s.mseq = .poll ∨ (s.mseq = .rearm ∧ 1 ≤ s.sub) ∨ (s.mseq = .mismatch ∧ 6 ≤ s.sub)

/-- MAIN is on the matched path, with the request's address byte in `REQ[0]` (R12). -/
def MSeq.matched : MSeq → Bool
  | .read => true
  | .indOn => true
  | .validate => true
  | .decode => true
  | .sample => true
  | .encode => true
  | .send => true
  | .poll => false
  | .pace => false
  | .rearm => false
  | .mismatch => false

/-- MAIN is past the CRC test (R77). -/
def MSeq.validated : MSeq → Bool
  | .decode => true
  | .sample => true
  | .encode => true
  | .send => true
  | .poll => false
  | .read => false
  | .indOn => false
  | .validate => false
  | .pace => false
  | .rearm => false
  | .mismatch => false

/-- MAIN is past the type test (R77). -/
def MSeq.typed : MSeq → Bool
  | .sample => true
  | .encode => true
  | .send => true
  | .poll => false
  | .read => false
  | .indOn => false
  | .validate => false
  | .decode => false
  | .pace => false
  | .rearm => false
  | .mismatch => false

/-- MAIN is between the indicator's write and the re-arming on the matched path (R24, R113). -/
def MSeq.lit : MSeq → Bool
  | .validate => true
  | .decode => true
  | .sample => true
  | .encode => true
  | .send => true
  | .pace => true
  | .rearm => true
  | .poll => false
  | .read => false
  | .indOn => false
  | .mismatch => false

/-- The last position inside an operation. -/
def MSeq.lastSub : MSeq → Nat
  | .mismatch => 6
  | .indOn => 1
  | .rearm => 1
  | .read => 1
  | .send => 1
  | .sample => 1
  | .poll => 0
  | .validate => 0
  | .decode => 0
  | .encode => 0
  | .pace => 0

/-- `REQ`'s trailer is its CRC (R71). -/
def State.frameValid (s : State) : Prop :=
  s.req[6] = loByte (crc16 s.req.toList 6) ∧ s.req[7] = hiByte (crc16 s.req.toList 6)

/-- The driver reads or is about to read the line, or has its stream (R131: the pin stays in input mode). -/
def SdSeq.listening : SdSeq → Bool
  | .prep _ => true
  | .data _ => true
  | .idle => false
  | .start _ => false
  | .done => false
  | .fail => false

/-- What holds of every state a run reaches. -/
structure State.Inv (s : State) : Prop where
  /-- Where the handler may run, the notification is enabled exactly when nothing is classified (R32, R119). -/
  notify_rearmed : s.rearmed → (s.notifyEn = true ↔ s.dstate = .idle)
  /-- While a cycle is in flight the notification is disabled and nothing is classified (R32, R60). -/
  notify_cycle : ¬ s.rearmed → s.notifyEn = false ∧ s.dstate = .idle
  /-- The receiver is off only inside the flush (R27). -/
  rx_window : s.rxEn = false ↔ (s.mseq = .mismatch ∧ s.sub = 3)
  /-- With the receiver off the queue is empty (R67). -/
  rx_empty : s.rxEn = false → s.rxq = []
  /-- A matched frame carries this block's address (R12). -/
  address_matched : s.mseq.matched = true ∨ s.dstate = .addressMatched → s.req[0] = s.slaveAddr
  /-- A mismatched one does not (R110). -/
  address_mismatched :
    s.dstate = .addressMismatched ∨ (s.mseq = .mismatch ∧ s.sub < 6) → s.req[0] ≠ s.slaveAddr
  /-- Past the CRC test the frame is valid (R77, R114). -/
  crc_valid : s.mseq.validated = true → s.crcOk = true ∧ s.frameValid
  /-- Past the type test the type is that of byte 3, and known (R115, R156). -/
  type_known : s.mseq.typed = true → s.rtype = requestTypeOf s.req[3] ∧ s.rtype ≠ .unknown
  /-- The indicator is on from its write in `M_IND_ON` to the re-arming (R24, R113). -/
  indicator_on : s.mseq.lit = true ∨ (s.mseq = .indOn ∧ s.sub = 1) → s.indicator = true
  /-- What is being sent is the response to the frame in `REQ` (R117, R118). -/
  response_built : s.mseq = .send → s.rsp = responseFrame s.req[0] s.value
  /-- The driver works only in `M_SAMPLE`, inside the loop of R150. -/
  driver_called : s.sdseq ≠ .idle → s.mseq = .sample ∧ s.sub ≠ 0
  /-- While the driver listens the pin is an input and was left driven high (R131). -/
  pin_input : s.sdseq.listening = true → s.pinMode = .input ∧ s.pinOut = true
  /-- Inside StartPulse the pin is an output at the level of the last line performed (R131). -/
  pin_driven : ∀ k, s.sdseq = .start k → k ≠ .wake → s.pinMode = .output ∧ s.pinOut = decide (k ≠ .release)
  /-- `BITIDX` (R21): below forty inside a bit, forty when the stream is complete. -/
  bit_range : ∀ b, s.sdseq = .data b → if b = .asm then s.bitIdx = 40 else s.bitIdx < 40
  bit_bound : s.bitIdx ≤ 40
  /-- `SMPIDX` (R21). -/
  sample_bound : s.smpIdx ≤ 9
  /-- A pass in progress has an element to keep (R150). -/
  sample_open : s.sdseq ≠ .idle → s.smpIdx < 9
  /-- `BYTEIDX` (R21); inside R112's loop it never names byte 0. -/
  byte_bound : s.byteIdx ≤ 8
  read_from_one : s.mseq = .read → s.sub ≠ 0 → 1 ≤ s.byteIdx
  send_bound : s.mseq = .send → s.sub ≠ 0 → s.byteIdx ≤ 7
  /-- The position is one the operation has. -/
  sub_bound : s.sub ≤ s.mseq.lastSub

/-- The quiescent state (R193). -/
def State.quiescent (s : State) : Prop :=
  s.mseq = .poll ∧ s.dstate = .idle ∧ s.notifyEn = true ∧ s.rxEn = true ∧ s.sdseq = .idle ∧ s.rxq = []

/-! ### The sensor's duties, as premises -/

/-- How many extra reads each busy-poll of an acquisition takes: the three of R132, and `A` and `D` of each bit (R133). -/
structure Timing where
  p1 : Nat
  p2 : Nat
  p3 : Nat
  bit : Nat → Nat × Nat

/-- Answers that carry the driver through PreparationResponse (R132); without `PREP_LOW_WAIT` there is no `P2`. -/
def prepReads (lowWait : Bool) (w : Timing) : List Bool :=
  List.replicate w.p1 true ++ [false] ++
    (if lowWait then List.replicate w.p2 false ++ [true] else []) ++
    List.replicate w.p3 true ++ [false]

/-- Answers that carry the driver through one bit of value `b` (R133): `A`, `C`, `D`. -/
def bitReads (w : Nat × Nat) (b : Bool) : List Bool :=
  List.replicate w.1 false ++ [true, b] ++ List.replicate w.2 true ++ [false]

/-- Answers that carry the driver through bits `i` to `i + n - 1` of a stream. -/
def bitsReads (w : Timing) (str : SensorBits) (i n : Nat) : List Bool :=
  (List.range' i n).flatMap fun k => bitReads (w.bit k) (streamBit str k)

/-- `SENSOR_RESPONDS` and `SENSOR_STREAM(str)` for one acquisition (R65): every poll ends, and the forty samples are `str`. -/
def acquisitionReads (lowWait : Bool) (w : Timing) (str : SensorBits) : List Bool :=
  prepReads lowWait w ++ bitsReads w str 0 40

/-- The same for `n` acquisitions, from the `k`-th. -/
def samplingReads (lowWait : Bool) (w : Nat → Timing) (str : Nat → SensorBits) (k n : Nat) : List Bool :=
  (List.range' k n).flatMap fun j => acquisitionReads lowWait (w j) (str j)

/-! ### What an acquisition gives -/

/-- The checksum of a stream holds (R135). -/
def streamOk (k : SensorChk) (str : SensorBits) : Bool :=
  chkOkOf k (streamHum str) (streamTmp str) (streamChk str)

/-- `decodeStream(s)` of R139: the two readings, both zero when the checksum fails (R136). -/
def readingsOf (k : SensorChk) (str : SensorBits) : Word × Word :=
  if streamOk k str then (streamHum str, streamTmp str) else (0, 0)

/-- The reading a request of type `t` keeps of a stream (R150). -/
def keptReading (k : SensorChk) (t : ReqType) (str : SensorBits) : Word :=
  if t = .temperature then (readingsOf k str).2 else (readingsOf k str).1

/-- The nine readings in acquisition order. -/
def readingList (k : SensorChk) (t : ReqType) (str : Nat → SensorBits) : Vector Word 9 :=
  Vector.ofFn fun j : Fin 9 => keptReading k t (str j)

/-- The driven waveform of StartPulse (R131). -/
def startWaveform : List Obs :=
  [.pinMode .output, .pinDrive true, .delay .wake, .pinDrive false, .delay .start, .pinDrive true,
    .delay .release, .pinMode .input]

/-- What one acquisition leaves in the trace: the waveform, forty sampling offsets, and the event of a failed checksum. -/
def acquisitionTrace (k : SensorChk) (str : SensorBits) : List Obs :=
  startWaveform ++ List.replicate 40 (.delay .sample) ++
    (if streamOk k str then [] else [.event (.sensorChk (streamChk str))])

/-- What the passes `j` to `j + n - 1` of a sampling leave in the trace, cooldowns included (R155). -/
def samplingTrace (c : Config) (str : Nat → SensorBits) (j n : Nat) : List Obs :=
  (List.range' j n).flatMap fun i =>
    acquisitionTrace c.sensorChk (str i) ++ (if i < 8 ∨ c.cooldownAfterLast then [.delay .cooldown] else [])

/-- The state after an acquisition that sampled `str` (R130, R139). -/
def State.afterAcquire (s : State) (str : SensorBits) (rest : List Bool) : State :=
  { s with
    sdseq := .idle
    bitIdx := 40
    sbit := str
    hum := (readingsOf s.cfg.sensorChk str).1
    tmp := (readingsOf s.cfg.sensorChk str).2
    chk := streamChk str
    chkOk := streamOk s.cfg.sensorChk str
    pinMode := .input
    pinOut := true
    pinq := rest
    trace := s.trace ++ acquisitionTrace s.cfg.sensorChk str }

/-- The state after the nine acquisitions of a request of type `t` and the median (R150, R151). -/
def State.afterSampling (s : State) (t : ReqType) (str : Nat → SensorBits) (rest : List Bool) : State :=
  let sorted := sortSample (readingList s.cfg.sensorChk t str)
  { s with
    sdseq := .idle
    bitIdx := 40
    smpIdx := 9
    sbit := str 8
    hum := (readingsOf s.cfg.sensorChk (str 8)).1
    tmp := (readingsOf s.cfg.sensorChk (str 8)).2
    chk := streamChk (str 8)
    chkOk := streamOk s.cfg.sensorChk (str 8)
    pinMode := .input
    pinOut := true
    pinq := rest
    sample := sorted
    value := sorted[4]
    sub := 0
    trace := s.trace ++ samplingTrace s.cfg str 0 9 }

/-! ### Turns in a row -/

/-- Turns one after another from a state, stopping at the first that does not answer a next state. -/
def turns : List Turn → State → Host.Outcome State Fault Refusal
  | [], s => .next s
  | t :: ts, s =>
    match act t s with
    | .next u => turns ts u
    | .fault r => .fault r
    | .refused r => .refused r

end Sys2Proof.Machine
end

