-- ==== Sys2Proof/Certificates/Slice0/Obligations.lean ====
section
/-! DEFINITION. The statements for the provers: what the rules of spec/ say the machine does. OBLIGATIONS.json lists them. -/

open Sys2Proof Sys2Proof.Machine

/-! ### Encodings -/

/-- Encoding a well-formed encoded row and decoding the bytes in its format gives the row back, and leaves what follows. -/
def Obligations.EncodeThenDecodeGivesTheRow : Prop :=
  ∀ (slave : Byte) (i : Instr) (f : Format) (rest : List Byte),
    i.wellFormed slave = true → formatOf i = some f → decode f slave (encode i ++ rest) = .ok i rest

/-- What decodes is a well-formed row of the format, and its bytes are the ones that were read: no byte has two meanings. -/
def Obligations.DecodedBytesHaveOneMeaning : Prop :=
  ∀ (slave : Byte) (f : Format) (bytes rest : List Byte) (i : Instr),
    decode f slave bytes = .ok i rest →
      i.wellFormed slave = true ∧ formatOf i = some f ∧ encode i ++ rest = bytes

/-- Words of the opcode table, written out from the formats R71 to R73 and the trailers of 95_test_vectors.md. -/
def Obligations.TableWordsDecode : Prop :=
  decodeTableWord 64 0x06000001000051BD = some (.reqTemp 0x06 0 0 0 0) ∧
  decodeTableWord 64 0x061234015678D80C = some (.reqTemp 0x06 0x12 0x34 0x56 0x78) ∧
  decodeTableWord 64 0x060000020000A1BD = some (.reqHum 0x06 0 0 0 0) ∧
  decodeTableWord 64 0x060000030000F07D = some (.reqUnk 0x06 0 0 0x03 0 0) ∧
  decodeTableWord 64 0x06000001000051BC = some (.reqBadCrc 0x06 0 0 0x01 0 0 0x51 0xBC) ∧
  decodeTableWord 8 0x07 = some (.reqOther 0x07) ∧
  decodeTableWord 56 0x060402015F4D58 = some (.rspValue 0x06 0x015F) ∧
  decodeTableWord 40 0x028C015FEE = some (.strData 0x028C 0x015F 0xEE)

/-- The three tests of a request, in their order: the address on byte 0 alone, then the CRC, then the type (R77, R170). -/
def Obligations.RequestTestsAreMadeInOrder : Prop :=
  ∀ (slave a r1 r2 t r4 r5 lo hi : Byte) (rest : List Byte),
    let c := crc16 [a, r1, r2, t, r4, r5] 6
    let frame := a :: r1 :: r2 :: t :: r4 :: r5 :: lo :: hi :: rest
    (∀ bytes, a ≠ slave → decode .req slave (a :: bytes) = .ok (.reqOther a) bytes) ∧
    (a = slave → ¬ (lo = loByte c ∧ hi = hiByte c) →
      decode .req slave frame = .ok (.reqBadCrc a r1 r2 t r4 r5 lo hi) rest) ∧
    (a = slave → lo = loByte c → hi = hiByte c → t = 0x01 →
      decode .req slave frame = .ok (.reqTemp a r1 r2 r4 r5) rest) ∧
    (a = slave → lo = loByte c → hi = hiByte c → t = 0x02 →
      decode .req slave frame = .ok (.reqHum a r1 r2 r4 r5) rest) ∧
    (a = slave → lo = loByte c → hi = hiByte c → t ≠ 0x01 → t ≠ 0x02 →
      decode .req slave frame = .ok (.reqUnk a r1 r2 t r4 r5) rest)

/-! ### CRC16 Engine -/

/-- The table-driven computation equals the bit-serial form of R93 (1). -/
def Obligations.CrcEqualsBitSerialForm : Prop :=
  ∀ (bytes : List Byte) (n : Nat),
    crc16 bytes n =
      (bytes.take n).foldl (fun c b => crcShifts 8 (c ^^^ b.zeroExtend 16)) (0xFFFF : Word)

/-- The residue of R93 (3): a string followed by its CRC, low byte first, has CRC zero. -/
def Obligations.CrcOfFrameWithTrailerIsZero : Prop :=
  ∀ m : List Byte,
    crc16 (m ++ [loByte (crc16 m m.length), hiByte (crc16 m m.length)]) (m.length + 2) = 0

/-- Two frames of equal length that differ in exactly one bit have different CRCs. -/
def Obligations.CrcSeparatesFramesOneBitApart : Prop :=
  ∀ (pre post : List Byte) (b : Byte) (j : Nat), j < 8 →
    crc16 (pre ++ (b ^^^ BitVec.twoPow 8 j) :: post) (pre.length + post.length + 1) ≠
      crc16 (pre ++ b :: post) (pre.length + post.length + 1)

/-- `CRC16.compute` on at least `length` bytes leaves the engine's fold from 0xFFFF in `CRC` and writes nothing else but its
counter (R90, R95). The counter's final value is the model's choice (assumption log 9). -/
def Obligations.CrcComputeFoldsFromFFFF : Prop :=
  ∀ (bytes : List Byte) (length : Nat) (s : State), length ≤ bytes.length →
    ∃ k, exec (.crc16Compute bytes length) s =
      .next { s with
        crc := (bytes.take length).foldl
          (fun c b => (c >>> 8) ^^^ tab (BitVec.extractLsb' 0 8 (c ^^^ b.zeroExtend 16))) (0xFFFF : Word)
        byteIdx := k }

/-- The operands the spec gives no meaning to are refused by name, in every state: a `length` beyond the bytes (U21), and the
type `Unknown` (R156, U15). That `MAIN.sampleStep` is refused so where `MSEQ` does not select it too is the model's choice
(assumption log 29). -/
def Obligations.OperandsWithoutMeaningAreRefused : Prop :=
  (∀ (bytes : List Byte) (length : Nat) (s : State), bytes.length < length →
    exec (.crc16Compute bytes length) s = .refused .crcLengthBeyondBytes) ∧
  (∀ s : State, exec (.seSampleMedian .unknown) s = .refused .sampleUnknownType) ∧
  (∀ s : State, s.rtype = .unknown → exec .mainSampleStep s = .refused .sampleUnknownType)

/-! ### Frame Codec -/

/-- `FC.validate` (R100): `CRC_OK` is the comparison of both trailer bytes with the CRC of bytes 0 to 5, low byte first. -/
def Obligations.ValidateComparesTheTrailer : Prop :=
  ∀ s : State,
    let c := crc16 [s.req[0], s.req[1], s.req[2], s.req[3], s.req[4], s.req[5]] 6
    ∃ k, exec .fcValidate s =
      .next { s with
        crc := c
        byteIdx := k
        crcOk := decide (s.req[6] = c.extractLsb' 0 8 ∧ s.req[7] = c.extractLsb' 8 8) }

/-- R104: a frame with a correct trailer is valid; with any one bit of its first six bytes inverted it is not. -/
def Obligations.ValidateDetectsSingleBitErrors : Prop :=
  ∀ (s : State) (k : Fin 6) (j : Nat), j < 8 →
    s.req[6] = loByte (crc16 s.req.toList 6) → s.req[7] = hiByte (crc16 s.req.toList 6) →
    (∃ t, exec .fcValidate s = .next t ∧ t.crcOk = true) ∧
    (∃ t, exec .fcValidate { s with req := s.req.set k (s.req[k] ^^^ BitVec.twoPow 8 j) } = .next t ∧
      t.crcOk = false)

/-- `FC.decodeRequestType` (R101, R78): from byte 3 only. -/
def Obligations.RequestTypeIsReadFromByteThree : Prop :=
  ∀ s : State,
    exec .fcDecodeRequestType s =
      .next { s with
        rtype := if s.req[3] = 0x01 then .temperature
          else if s.req[3] = 0x02 then .humidity else .unknown }

/-- `FC.encodeResponse` (R102): the seven bytes, value high byte first, CRC of the first five low byte first. -/
def Obligations.EncodeResponseBuildsTheFrame : Prop :=
  ∀ (a : Byte) (v : Word) (s : State),
    let c := crc16 [a, 0x04, 0x02, v.extractLsb' 8 8, v.extractLsb' 0 8] 5
    ∃ k, exec (.fcEncodeResponse a v) s =
      .next { s with
        rsp := #v[a, 0x04, 0x02, v.extractLsb' 8 8, v.extractLsb' 0 8, c.extractLsb' 0 8, c.extractLsb' 8 8]
        crc := c
        byteIdx := k }

/-- R103: what `encodeResponse` builds satisfies the same test over its own bytes. -/
def Obligations.EncodedResponseIsValid : Prop :=
  ∀ (a : Byte) (v : Word) (s : State),
    ∃ t, exec (.fcEncodeResponse a v) s = .next t ∧
      crc16 t.rsp.toList 5 = joinBytes t.rsp[6] t.rsp[5]

/-! ### Dispatcher -/

/-- The handler (R110) when the notification condition of R169 holds: one byte, classified by equality, the notification
disabled, nothing else. That the byte is kept in `REQ[0]` is decision D15 of the spec. -/
def Obligations.HandlerClassifiesOneByte : Prop :=
  ∀ (s : State) (b : Byte) (q : List Byte), s.notifyEn = true → s.rxEn = true → s.rxq = b :: q →
    exec .dispNotify s =
      .next { s with
        rxq := q
        req := s.req.set 0 b
        dstate := if b = s.slaveAddr then .addressMatched else .addressMismatched
        notifyEn := false }

/-- The handler does not run when the condition of R169 fails (V-H-6, V-H-7). -/
def Obligations.HandlerNeedsPendingAndEnabled : Prop :=
  ∀ s : State, ¬ (s.notifyEn = true ∧ s.rxEn = true ∧ s.rxq ≠ []) → exec .dispNotify s = .next s

/-- `MAIN.poll` (R111, R121): read and reset in one step, and the three arms. That it runs where `MSEQ` does not select it is
the model's choice (assumption log 29). -/
def Obligations.PollReadsAndResetsDispatchState : Prop :=
  ∀ s : State,
    exec .mainPoll s =
      .next { s with
        dstate := .idle
        mseq := match s.dstate with
          | .addressMatched => .read
          | .addressMismatched => .mismatch
          | .idle => .poll
        sub := 0 }

/-- `MAIN.readFrame` (R112) with the seven bytes in the queue: they fill `REQ[1..7]` in arrival order. That it runs where `MSEQ`
does not select it is the model's choice (assumption log 29). -/
def Obligations.ReadFrameTakesSevenBytes : Prop :=
  ∀ (s : State) (b1 b2 b3 b4 b5 b6 b7 : Byte) (q : List Byte), s.sub = 0 →
    s.rxq = b1 :: b2 :: b3 :: b4 :: b5 :: b6 :: b7 :: q →
    ∃ k, exec .mainReadFrame s =
      .next { s with
        req := #v[s.req[0], b1, b2, b3, b4, b5, b6, b7]
        rxq := q
        byteIdx := k
        mseq := .indOn
        sub := 0 }

/-- A short frame (R42, R53, R167): MAIN takes what has arrived and waits in `M_READ`; when enough bytes have arrived later, the
read ends as if they had all been there. The bytes sent meanwhile, of any number, arrive while a cycle is in flight: that they
are all kept is the lossless queue of R66, decision D12 of the spec (assumption log 2). -/
def Obligations.ReadFrameWaitsForMissingBytes : Prop :=
  ∀ s : State, s.mseq = .read → s.sub = 0 → s.rxEn = true → s.rxq.length < 7 →
    ∃ t, exec .mainReadFrame s = .next t ∧ t.mseq = .read ∧ t.rxq = [] ∧ exec .mainReadFrame t = .next t ∧
      ∀ ys : List Byte, 7 ≤ s.rxq.length + ys.length →
        exec .mainReadFrame (t.masterSendAll ys) = exec .mainReadFrame (s.masterSendAll ys)

/-- `MAIN.indicatorOn` (R113). That it runs where `MSEQ` does not select it is the model's choice (assumption log 29). -/
def Obligations.IndicatorGoesOnAfterTheRead : Prop :=
  ∀ s : State, s.sub = 0 →
    exec .mainIndicatorOn s = .next { s with indicator := true, mseq := .validate, sub := 0 }

/-- `MAIN.validateStep` (R114): on a valid frame MAIN goes on; on an invalid one the event names the frame, a diagnostic is
emitted, nothing is sent, and MAIN goes to the re-arming, through the pace exactly when `PACE_ON_DISCARD` (decision D10). That
it runs where `MSEQ` does not select it is the model's choice (assumption log 29). That a diagnostic leaves `TXLOG` alone is
decision D23 of the spec (assumption log 17). -/
def Obligations.ValidateStepAcceptsOrDiscards : Prop :=
  ∀ s : State,
    let c := crc16 s.req.toList 6
    ∃ k, exec .mainValidateStep s =
      .next (if s.req[6] = loByte c ∧ s.req[7] = hiByte c then
          { s with crc := c, byteIdx := k, crcOk := true, mseq := .decode, sub := 0 }
        else
          { s with
            crc := c
            byteIdx := k
            crcOk := false
            mseq := if s.cfg.paceOnDiscard = true then .pace else .rearm
            sub := 0
            trace := s.trace ++ [.event (.crcMismatch s.req), .diag .crcMismatch] })

/-- `MAIN.decodeStep` (R115): types 1 and 2 go to the sampling; any other raises its event and is discarded (decision D9). That
it runs where `MSEQ` does not select it is the model's choice (assumption log 29). -/
def Obligations.DecodeStepSamplesOrDiscards : Prop :=
  ∀ s : State,
    exec .mainDecodeStep s =
      .next (if s.req[3] = 0x01 then { s with rtype := .temperature, mseq := .sample, sub := 0 }
        else if s.req[3] = 0x02 then { s with rtype := .humidity, mseq := .sample, sub := 0 }
        else
          { s with
            rtype := .unknown
            mseq := if s.cfg.paceOnDiscard = true then .pace else .rearm
            sub := 0
            trace := s.trace ++ [.event (.unknownType s.req[3])] })

/-- `MAIN.sampleStep` (R116), from the start of the sampling, under `SENSOR_RESPONDS` and `SENSOR_STREAM` of R65 for each of the
nine acquisitions. Rests on decisions D4 (assumption log 11), D6 (log 16), D8 (log 12) and D16 of the spec; that `BITIDX` ends
at 40 and `SMPIDX` at 9 is the model's choice, which R21 and decision D1 leave to it (log 9). That it runs where `MSEQ` does not
select it is the model's choice (assumption log 29). -/
def Obligations.SampleStepStoresTheMedian : Prop :=
  ∀ (s : State) (w : Nat → Timing) (str : Nat → SensorBits) (rest : List Bool),
    s.sub = 0 → s.sdseq = .idle → s.rtype ≠ .unknown →
    s.pinq = samplingReads s.cfg.prepLowWait w str 0 9 ++ rest →
    exec .mainSampleStep s = .next { s.afterSampling s.rtype str rest with mseq := .encode }

/-- `MAIN.encodeStep` (R117): the response of `REQ[0]` (decision D18) and `VALUE`. That it runs where `MSEQ` does not select it
is the model's choice (assumption log 29). -/
def Obligations.EncodeStepBuildsTheResponse : Prop :=
  ∀ s : State, ∃ k, exec .mainEncodeStep s =
    .next { s with
      rsp := responseFrame s.req[0] s.value
      crc := crc16 (responseBody s.req[0] s.value) 5
      byteIdx := k
      mseq := .send
      sub := 0 }

/-- `MAIN.send` (R118): `TXLOG` gains exactly the seven bytes of `RSP`, byte 0 first. That it runs where `MSEQ` does not select
it is the model's choice (assumption log 29). That every byte is accepted, so that the operation always ends with all seven
sent, is decision D26 of the spec (R43; assumption log 25). -/
def Obligations.SendAppendsTheSevenBytes : Prop :=
  ∀ s : State, s.sub = 0 →
    ∃ k, exec .mainSend s =
      .next { s with
        txlog := s.txlog ++ [s.rsp[0], s.rsp[1], s.rsp[2], s.rsp[3], s.rsp[4], s.rsp[5], s.rsp[6]]
        byteIdx := k
        mseq := .pace
        sub := 0 }

/-- `MAIN.paceRearm` (R119): from `M_PACE` the delay and the re-arming, from `M_REARM` the re-arming. -/
def Obligations.PaceRearmEnablesTheNotification : Prop :=
  ∀ s : State, s.sub = 0 →
    (s.mseq = .pace → exec .mainPaceRearm s =
      .next { s with notifyEn := true, mseq := .poll, trace := s.trace ++ [.delay .pace] }) ∧
    (s.mseq = .rearm → exec .mainPaceRearm s = .next { s with notifyEn := true, mseq := .poll })

/-- `MAIN.mismatch` (R120): event, indicator off, flush, diagnostic, immediate re-arming; no pace. That it runs where `MSEQ`
does not select it is the model's choice (assumption log 29). That a diagnostic leaves `TXLOG` alone is decision D23 of the spec
(assumption log 17). -/
def Obligations.MismatchFlushesAndRearms : Prop :=
  ∀ s : State, s.sub = 0 →
    exec .mainMismatch s =
      .next { s with
        indicator := false
        rxEn := true
        rxq := []
        notifyEn := true
        mseq := .poll
        trace := s.trace ++ [.event (.addrMismatch s.req[0]), .diag .addressMismatch] }

/-! ### Sensor Driver -/

/-- StartPulse (R131): a call of the driver begins with the whole driven waveform; the pin is then an input, left driven high,
and nothing after it writes the pin. That it runs whether or not the sampling calls it is the model's choice (assumption log
29). -/
def Obligations.AcquisitionBeginsWithStartPulse : Prop :=
  ∀ s : State, s.sdseq = .idle →
    ∃ t tail, exec .sdAcquire s = .next t ∧ t.pinMode = .input ∧ t.pinOut = true ∧
      t.trace = s.trace ++
        [.pinMode .output, .pinDrive true, .delay .wake, .pinDrive false, .delay .start, .pinDrive true,
          .delay .release, .pinMode .input] ++ tail ∧
      ∀ o ∈ tail, (∀ m, o ≠ .pinMode m) ∧ ∀ l, o ≠ .pinDrive l

/-- `SD.acquire` (R130, R139 (b)): whatever the number of reads each busy-poll takes, an acquisition whose forty samples are
`str` returns with `decodeStream(str)` and leaves every other register alone. Rests on decisions D4 (assumption log 11) and D6
(log 16) of the spec; that `BITIDX` ends at 40 is the model's choice, which R21 and decision D1 leave to it (log 9). That it
runs whether or not the sampling calls it is the model's choice (assumption log 29). -/
def Obligations.AcquisitionReturnsItsStream : Prop :=
  ∀ (s : State) (w : Timing) (str : SensorBits) (rest : List Bool), s.sdseq = .idle →
    s.pinq = acquisitionReads s.cfg.prepLowWait w str ++ rest →
    exec .sdAcquire s = .next (s.afterAcquire str rest)

/-- The five kinds of busy-poll (R132, R133) wait for their level without bound (R138): however many reads answer the level
waited out, the driver stands where it stood. That it runs whether or not the sampling calls it is the model's choice
(assumption log 29). -/
def Obligations.BusyPollsWaitWithoutBound : Prop :=
  ∀ (s : State) (n : Nat) (level : Bool), s.pinMode = .input → s.pinq = List.replicate (n + 1) level →
    ((s.sdseq = .prep .p1 ∧ level = true) ∨ (s.sdseq = .prep .p2 ∧ level = false) ∨
      (s.sdseq = .prep .p3 ∧ level = true) ∨ (s.sdseq = .data .a ∧ level = false) ∨
      (s.sdseq = .data .d ∧ level = true)) →
    exec .sdAcquire s = .next { s with pinq := [] }

/-- `STR.DATA` (R134 to R136): the three fields, the checksum flag, and on a mismatch both readings zero, one event, `SD_FAIL`.
`CHK` and `SBIT` keep what was sampled. Rests on decisions D4 (assumption log 11) and D5 (log 8) of the spec. That the row runs
from any state, writes `SBIT` and leaves the driver at `SD_DONE` or `SD_FAIL` is the model's choice (log 21), and so is
`BITIDX` at 40 (log 9). -/
def Obligations.StreamIsAssembledAndTested : Prop :=
  ∀ (h t : Word) (c : Byte) (s : State),
    exec (.strData h t c) s =
      .next (if sensorChk s.cfg.sensorChk h t = c then
          { s with sbit := h ++ t ++ c, bitIdx := 40, hum := h, tmp := t, chk := c, chkOk := true, sdseq := .done }
        else
          { s with
            sbit := h ++ t ++ c
            bitIdx := 40
            hum := 0
            tmp := 0
            chk := c
            chkOk := false
            sdseq := .fail
            trace := s.trace ++ [.event (.sensorChk c)] })

/-- The first received bit of each group is its most significant (R50, R134; decision D4 of the spec). -/
def Obligations.FirstStreamBitIsMostSignificant : Prop :=
  ∀ str : SensorBits,
    (∀ i, i < 16 → (streamHum str).getLsbD (15 - i) = streamBit str i) ∧
    (∀ i, i < 16 → (streamTmp str).getLsbD (15 - i) = streamBit str (16 + i)) ∧
    (∀ i, i < 8 → (streamChk str).getLsbD (7 - i) = streamBit str (32 + i))

/-- `SUM4` and `SUM4_EAC` are the functions of R135, and they agree when the four-byte sum is below 256. -/
def Obligations.SensorChecksumsAgreeBelowOverflow : Prop :=
  ∀ h t : Word,
    let sum := (hiByte h).toNat + (loByte h).toNat + (hiByte t).toNat + (loByte t).toNat
    (sensorChk .sum4 h t).toNat = sum % 256 ∧
    (sensorChk .sum4Eac h t).toNat = ((sum % 256 + sum / 256) % 256 + (sum % 256 + sum / 256) / 256) % 256 ∧
    (sum < 256 → sensorChk .sum4 h t = sensorChk .sum4Eac h t)

/-! ### Sampling Engine -/

/-- `SE.sampleMedian` (R150) under `SENSOR_RESPONDS` and `SENSOR_STREAM` for nine acquisitions: the nine readings of the
requested quantity, sorted, and the middle one in `VALUE`. Rests on decisions D4 (assumption log 11), D6 (log 16), D8 (log 12)
and D16 of the spec; that `BITIDX` ends at 40 and `SMPIDX` at 9 is the model's choice, which R21 and decision D1 leave to it
(log 9). That it runs where `MSEQ` does not select it is the model's choice (assumption log 29). -/
def Obligations.SampleMedianOfNineStreams : Prop :=
  ∀ (s : State) (t : ReqType) (w : Nat → Timing) (str : Nat → SensorBits) (rest : List Bool),
    t ≠ .unknown → s.sub = 0 → s.sdseq = .idle →
    s.pinq = samplingReads s.cfg.prepLowWait w str 0 9 ++ rest →
    exec (.seSampleMedian t) s = .next (s.afterSampling t str rest)

/-- The sort (R151): descending in the unsigned order, a permutation; the middle element is one of the nine, at least five are
not below it and at least five are not above it. -/
def Obligations.SortGivesTheMedian : Prop :=
  ∀ v : Vector Word 9,
    (sortSample v).toList.Pairwise (fun x y => y.toNat ≤ x.toNat) ∧
    (sortSample v).toList.Perm v.toList ∧
    (sortSample v)[4] ∈ v.toList ∧
    5 ≤ (v.toList.filter fun x => (sortSample v)[4].toNat ≤ x.toNat).length ∧
    5 ≤ (v.toList.filter fun x => x.toNat ≤ (sortSample v)[4].toNat).length

/-- R153: with at most four failed readings (zeros) the median is one of the others; with five or more it is zero. That the
zeros sort last, which the first clause needs, is the unsigned order of R152, decision D8 of the spec (assumption log 12). -/
def Obligations.ZeroReadingsTakePartInTheMedian : Prop :=
  ∀ (v : Vector Word 9) (good : List Word) (k : Nat), v.toList.Perm (good ++ List.replicate k 0) →
    (k ≤ 4 → (sortSample v)[4] ∈ good) ∧ (5 ≤ k → (sortSample v)[4] = 0)

/-! ### The encoded rows as a whole -/

/-- `REQ.TEMP` and `REQ.HUM` on a ready core (R116, R125), under the sensor's duties for nine acquisitions: the median of the
requested quantity is answered in one response from the request's address, and the core is re-armed. Rests on decisions D4
(assumption log 11), D6 (log 16), D8 (log 12), D15 and D18 (log 15), D16 and D26 (log 25) of the spec. That the indicator is
still on after the completed cycle is decision D22 (R24, log 22). `BITIDX` at 40 and `SMPIDX` at 9 are the model's choice
(log 9), and the whole-frame turn is the model's (logs 4 and 21). -/
def Obligations.ValidRequestIsAnsweredWithTheMedian : Prop :=
  ∀ (s : State) (r1 r2 r4 r5 : Byte) (w : Nat → Timing) (str : Nat → SensorBits) (rest : List Bool),
    s.ready = true → s.sdseq = .idle →
    s.pinq = samplingReads s.cfg.prepLowWait w str 0 9 ++ rest →
    let answered := fun (t : ReqType) (code : Byte) (k : Nat) =>
      let m := s.afterSampling t str rest
      let body := [s.slaveAddr, r1, r2, code, r4, r5]
      let c := crc16 body 6
      { m with
        req := #v[s.slaveAddr, r1, r2, code, r4, r5, loByte c, hiByte c]
        crcOk := true
        rtype := t
        indicator := true
        rsp := responseFrame s.slaveAddr m.value
        crc := crc16 (responseBody s.slaveAddr m.value) 5
        byteIdx := k
        txlog := s.txlog ++ (responseFrame s.slaveAddr m.value).toList
        trace := m.trace ++ [.delay .pace] }
    (∃ k, exec (.reqTemp s.slaveAddr r1 r2 r4 r5) s = .next (answered .temperature 0x01 k)) ∧
    (∃ k, exec (.reqHum s.slaveAddr r1 r2 r4 r5) s = .next (answered .humidity 0x02 k))

/-- `REQ.UNK` on a ready core (R115, decision D9, assumption log 13): no sampling, no transmission, the event, re-armed. That the
indicator is still on after the completed cycle is decision D22 of the spec (R24, log 22); that the address byte is kept in
`REQ[0]` is D15 (log 15); the whole-frame turn is the model's (logs 4 and 21). -/
def Obligations.UnknownRequestIsDropped : Prop :=
  ∀ (s : State) (r1 r2 t r4 r5 : Byte), s.ready = true → t ≠ 0x01 → t ≠ 0x02 →
    let c := crc16 [s.slaveAddr, r1, r2, t, r4, r5] 6
    ∃ k, exec (.reqUnk s.slaveAddr r1 r2 t r4 r5) s =
      .next { s with
        req := #v[s.slaveAddr, r1, r2, t, r4, r5, loByte c, hiByte c]
        crc := c
        byteIdx := k
        crcOk := true
        rtype := .unknown
        indicator := true
        sub := 0
        trace := s.trace ++ [.event (.unknownType t)] ++
          (if s.cfg.paceOnDiscard = true then [.delay .pace] else []) }

/-- `REQ.BADCRC` on a ready core (R114, decision D10, assumption log 13): the type is not looked at, nothing is sent, the event
names the frame, re-armed. That the indicator is still on after the completed cycle is decision D22 of the spec (R24, log 22);
that the address byte is kept in `REQ[0]` is D15 (log 15); the whole-frame turn is the model's (logs 4 and 21). That a
diagnostic leaves `TXLOG` alone is decision D23 of the spec (assumption log 17). -/
def Obligations.BadCrcRequestIsDropped : Prop :=
  ∀ (s : State) (r1 r2 t r4 r5 lo hi : Byte), s.ready = true →
    let c := crc16 [s.slaveAddr, r1, r2, t, r4, r5] 6
    let frame : Vector Byte 8 := #v[s.slaveAddr, r1, r2, t, r4, r5, lo, hi]
    ¬ (lo = loByte c ∧ hi = hiByte c) →
    ∃ k, exec (.reqBadCrc s.slaveAddr r1 r2 t r4 r5 lo hi) s =
      .next { s with
        req := frame
        crc := c
        byteIdx := k
        crcOk := false
        indicator := true
        sub := 0
        trace := s.trace ++ [.event (.crcMismatch frame), .diag .crcMismatch] ++
          (if s.cfg.paceOnDiscard = true then [.delay .pace] else []) }

/-- `REQ.OTHER` on a ready core (R120): the mismatch path, and what was queued is flushed. That a diagnostic leaves `TXLOG`
alone is decision D23 of the spec (assumption log 17). -/
def Obligations.OtherAddressRequestIsFlushed : Prop :=
  ∀ (s : State) (a : Byte), s.ready = true → a ≠ s.slaveAddr →
    exec (.reqOther a) s =
      .next { s with
        req := s.req.set 0 a
        indicator := false
        rxq := []
        sub := 0
        trace := s.trace ++ [.event (.addrMismatch a), .diag .addressMismatch] }

/-- A frame that arrives while the core is not ready waits in the queue, untouched (R66, R199; decision D12); with the receiver
off it is lost (R67; decision D13). -/
def Obligations.FrameWaitsWhileNotReady : Prop :=
  ∀ (s : State) (i : Instr), formatOf i = some .req → s.ready = false →
    exec i s = .next (if s.rxEn = true then { s with rxq := s.rxq ++ encode i } else s)

/-- `RSP.VALUE` (R72, R102, R118): the seven bytes of the format are built and transmitted. That every byte is accepted, so that
the row always ends at `M_PACE` with all seven sent, is decision D26 of the spec (R43; assumption log 25). That the row runs
from any state is assumption log 21. -/
def Obligations.ResponseIsTransmitted : Prop :=
  ∀ (a : Byte) (v : Word) (s : State),
    let c := crc16 [a, 0x04, 0x02, hiByte v, loByte v] 5
    let bytes := [a, 0x04, 0x02, hiByte v, loByte v, loByte c, hiByte c]
    encode (.rspValue a v) = bytes ∧
    ∃ k, exec (.rspValue a v) s =
      .next { s with
        rsp := #v[a, 0x04, 0x02, hiByte v, loByte v, loByte c, hiByte c]
        crc := c
        byteIdx := k
        txlog := s.txlog ++ bytes
        mseq := .pace
        sub := 0 }

/-! ### The machine -/

/-- A step gives its turn to one agent: MAIN's turn runs the operation its sequencer selects (R84), the handler's turn the
handler, the master's turn sends its byte, a statement's turn runs one statement, a reset's turn resets. Where the stimulus
names no turn a free value does. The turns are the model's (assumption logs 3 and 4). That a byte is kept at any time while the
receiver is on is the lossless queue of R66, decision D12 of the spec (log 2); that it is lost while the receiver is off is
decision D13 (R67, log 14). The values a reset gives beyond those of R33 (decision D14), and what it keeps, are the model's (log
5). -/
def Obligations.StepRunsTheAgentOfTheTurn : Prop :=
  ∀ (s : State) (ts : List Turn),
    (s.sched = .main :: ts → step s = exec (selected s) { s with sched := ts }) ∧
    (s.sched = .handler :: ts → step s = exec .dispNotify { s with sched := ts }) ∧
    (s.sched = .stmt :: ts → step s = mainStmt { s with sched := ts }) ∧
    (∀ b, s.sched = .master b :: ts →
      step s = .next (if s.rxEn = true then { s with sched := ts, rxq := s.rxq ++ [b] } else { s with sched := ts })) ∧
    (s.sched = .reset :: ts → step s =
      .next { State.resetWith s.slaveAddr s.cfg with
        pinq := s.pinq, trace := s.trace, sched := ts, tick := s.tick }) ∧
    (s.sched = [] → step s = act (Config.freeTurn s.tick) { s with tick := s.tick + 1 }) ∧
    (s.mseq = .poll → selected s = .mainPoll) ∧ (s.mseq = .read → selected s = .mainReadFrame) ∧
    (s.mseq = .indOn → selected s = .mainIndicatorOn) ∧ (s.mseq = .validate → selected s = .mainValidateStep) ∧
    (s.mseq = .decode → selected s = .mainDecodeStep) ∧ (s.mseq = .sample → selected s = .mainSampleStep) ∧
    (s.mseq = .encode → selected s = .mainEncodeStep) ∧ (s.mseq = .send → selected s = .mainSend) ∧
    (s.mseq = .pace → selected s = .mainPaceRearm) ∧ (s.mseq = .rearm → selected s = .mainPaceRearm) ∧
    (s.mseq = .mismatch → selected s = .mainMismatch)

/-- A step runs the decoded row: a request at the head of a ready core's queue, the forty sampled bits of a stream, and in
`M_ENCODE` the response that is due. -/
def Obligations.StepRunsTheDecodedRow : Prop :=
  ∀ (s : State) (ts : List Turn), s.sched = .transact :: ts →
    (∀ i rest, s.ready = true → decode .req s.slaveAddr s.rxq = .ok i rest →
      step s = exec i { s with sched := ts, rxq := rest }) ∧
    (s.mseq = .sample → s.sdseq = .data .asm →
      step s = exec (.strData (streamHum s.sbit) (streamTmp s.sbit) (streamChk s.sbit)) { s with sched := ts }) ∧
    (s.mseq = .encode → step s = exec (.rspValue s.req[0] s.value) { s with sched := ts })

/-- The reset state, for every configuration, meets the invariant. The values R33 leaves unspecified are assumption log 5. -/
def Obligations.ResetMeetsTheInvariant : Prop :=
  ∀ (a : Byte) (c : Config), (State.resetWith a c).Inv

/-- Every step keeps the invariant (R12, R21, R24, R27, R32, R60, R77, R131), whatever the environment does. The turns are the
model's (assumption logs 3, 4 and 21), and so are the values a reset turn gives beyond R33 (log 5), the counters' ranges (log 9)
and the positions (log 18); the clauses on the flush and on `REQ[0]` are decisions D13 and D15 of the spec (logs 14 and 15), the
indicator's is decision D22 (log 22). -/
def Obligations.StepKeepsTheInvariant : Prop :=
  ∀ s t : State, s.Inv → step s = .next t → t.Inv

/-- From a state that meets the invariant every step answers a next state: nothing HTM-CORE detects stops it (R160). A step
whose input is missing answers the state in which it waits. That a byte sent is always accepted and a delay always ends is
decisions D26 and D21 of the spec (assumption logs 25 and 24). -/
def Obligations.StepAlwaysAnswers : Prop :=
  ∀ s : State, s.Inv → ∃ t, step s = .next t

/-- The values the spec's decision D14 gives for reset (R33, R190), at the start of a run and after a reset event in any state;
the others are assumption log 5. -/
def Obligations.ResetIsQuiescent : Prop :=
  (∀ (a : Byte) (c : Config),
    (State.resetWith a c).quiescent ∧ (State.resetWith a c).txlog = [] ∧ (State.resetWith a c).slaveAddr = a) ∧
  State.reset = State.resetWith Config.slaveAddr Config.default ∧
  ∀ s : State, ∃ t, act .reset s = .next t ∧ t.quiescent ∧ t.txlog = [] ∧ t.slaveAddr = s.slaveAddr ∧ t.cfg = s.cfg

/-- From a quiescent state, until the master sends a byte (or a reset comes), nothing happens but polling (R111, R192). -/
def Obligations.QuiescentCoreOnlyPolls : Prop :=
  ∀ (s : State) (u : Turn) (ts : List Turn), s.quiescent → s.sub = 0 → s.sched = u :: ts →
    (∀ b, u ≠ .master b) → u ≠ .reset → step s = .next { s with sched := ts }

/-- The handler takes nothing while a cycle is in flight (R32, R60, R199). -/
def Obligations.HandlerWaitsForRearming : Prop :=
  ∀ s : State, s.Inv → ¬ s.rearmed → act .handler s = .next s

/-- The flush, statement by statement (R67): at `RX_EN <- 0` the queue is emptied, a byte sent before `RX_EN <- 1` is lost, and
`RX_EN <- 1` resumes with the queue empty (V-M-2). -/
def Obligations.BytesSentDuringTheFlushAreLost : Prop :=
  ∀ (s : State) (bytes : List Byte), s.mseq = .mismatch → s.sub = 2 →
    turns (.stmt :: bytes.map .master ++ [.stmt]) s = .next { s with rxEn := true, rxq := [], sub := 4 }

/-- The complete transition table of `MSEQ` (R122), statement by statement. The handler and the master leave `MSEQ` as it was; a
reset sets it. Where the sequencer stays, MAIN is still inside the operation: the clauses for `M_READ`, `M_IND_ON`, `M_SAMPLE`,
`M_SEND`, `M_REARM` and `M_MISMATCH` say when it leaves in the model's own terms, its statements (assumption log 4), its position
`sub` (log 18) and the counters past their last pass, 8 and 7 for `BYTEIDX` and 9 for `SMPIDX` (log 9). -/
def Obligations.MainSequencerFollowsItsTable : Prop :=
  (∀ (a : Byte) (c : Config), (State.resetWith a c).mseq = .poll) ∧
  (∀ s t : State, exec .dispNotify s = .next t → t.mseq = s.mseq) ∧
  (∀ (s t : State) (b : Byte), act (.master b) s = .next t → t.mseq = s.mseq) ∧
  ∀ s t : State, mainStmt s = .next t →
    (s.mseq = .poll → t.mseq = match s.dstate with
      | .idle => .poll
      | .addressMatched => .read
      | .addressMismatched => .mismatch) ∧
    (s.mseq = .read → t.mseq = if s.sub ≠ 0 ∧ 8 ≤ s.byteIdx then .indOn else .read) ∧
    (s.mseq = .indOn → t.mseq = if s.sub = 0 then .indOn else .validate) ∧
    (s.mseq = .validate → t.mseq =
      if t.crcOk = true then .decode else if s.cfg.paceOnDiscard = true then .pace else .rearm) ∧
    (s.mseq = .decode → t.mseq =
      if t.rtype ≠ .unknown then .sample else if s.cfg.paceOnDiscard = true then .pace else .rearm) ∧
    (s.mseq = .sample → t.mseq =
      if s.sub ≠ 0 ∧ 9 ≤ s.smpIdx ∧ s.sdseq = .idle then .encode else .sample) ∧
    (s.mseq = .encode → t.mseq = .send) ∧
    (s.mseq = .send → t.mseq = if s.sub ≠ 0 ∧ 7 ≤ s.byteIdx then .pace else .send) ∧
    (s.mseq = .pace → t.mseq = .rearm) ∧
    (s.mseq = .rearm → t.mseq = if s.sub = 0 then .rearm else .poll) ∧
    (s.mseq = .mismatch → t.mseq = if s.sub < 6 then .mismatch else .poll)

/-- The transition table of `SDSEQ` (R137), statement by statement, inside the sampling loop: a busy-poll is left by the awaited
level and by nothing else. The sub-steps inside `SD_START`, `SD_PREP` and `SD_DATA` are the model's (assumption log 18), and so
are the size of a statement (log 4) and the values `BITIDX` and `SMPIDX` take (log 9); the branch out of `P1` is decision D6 of
the spec (log 16). -/
def Obligations.DriverSequencerFollowsItsTable : Prop :=
  ∀ s t : State, s.mseq = .sample → s.sub ≠ 0 → mainStmt s = .next t →
    let level := s.pinRead.1
    (s.sdseq = .idle → t.sdseq = if 9 ≤ s.smpIdx then .idle else .start .wake) ∧
    (s.sdseq = .start .wake → t.sdseq = .start .low) ∧
    (s.sdseq = .start .low → t.sdseq = .start .release) ∧
    (s.sdseq = .start .release → t.sdseq = .start .input) ∧
    (s.sdseq = .start .input → t.sdseq = .prep .p1 ∧ t.pinMode = .input) ∧
    (s.sdseq = .prep .p1 → t.sdseq =
      if level = true then .prep .p1 else if s.cfg.prepLowWait = true then .prep .p2 else .prep .p3) ∧
    (s.sdseq = .prep .p2 → t.sdseq = if level = true then .prep .p3 else .prep .p2) ∧
    (s.sdseq = .prep .p3 → t.sdseq = if level = true then .prep .p3 else .data .a) ∧
    (s.sdseq = .prep .p3 → level = false → t.bitIdx = 0) ∧
    (s.sdseq = .data .a → t.sdseq = if level = true then .data .c else .data .a) ∧
    (s.sdseq = .data .c → t.sdseq = .data .d ∧ t.sbit = setStreamBit s.sbit s.bitIdx level) ∧
    (s.sdseq = .data .d → t.sdseq =
      if level = true then .data .d else if s.bitIdx + 1 < 40 then .data .a else .data .asm) ∧
    (s.sdseq = .data .d → level = false → t.bitIdx = if s.bitIdx + 1 < 40 then s.bitIdx + 1 else 40) ∧
    (s.sdseq = .data .asm → t.sdseq = if t.chkOk = true then .done else .fail) ∧
    (s.sdseq = .done ∨ s.sdseq = .fail → t.sdseq = .idle)

/-- R124: on the mismatch path neither the Frame Codec nor the Sensor Driver runs: until the next notification only the
indicator, the receiver, the notification enable, MAIN's position and the trace change, and the trace shows no pin write. That a
diagnostic leaves `TXLOG` alone is decision D23 of the spec (assumption log 17). -/
def Obligations.MismatchNeverReachesCodecOrDriver : Prop :=
  ∀ (s t : State) (u : Turn), s.mseq = .mismatch → u ≠ .handler → u ≠ .reset → act u s = .next t →
    ∃ ind rx q ne m sb tr,
      t = { s with
        indicator := ind, rxEn := rx, rxq := q, notifyEn := ne, mseq := m, sub := sb, trace := s.trace ++ tr } ∧
      (m = .mismatch ∨ m = .poll) ∧
      ∀ o ∈ tr, o = .event (.addrMismatch s.req[0]) ∨ o = .diag .addressMismatch

/-- Only `MAIN.send` transmits, and what it transmits is `RSP`, in order (R13, R118). That a diagnostic leaves `TXLOG` alone is
decision D23 of the spec (assumption log 17). -/
def Obligations.OnlySendTransmits : Prop :=
  ∀ (s t : State) (u : Turn), u = .stmt ∨ u = .handler ∨ (∃ b, u = .master b) → act u s = .next t →
    t.txlog = s.txlog ∨
      (u = .stmt ∧ s.mseq = .send ∧ ∃ h : s.byteIdx < 7, t.txlog = s.txlog ++ [s.rsp[s.byteIdx]])

/-- `SLAVE_ADDR` and the parameters are configuration: no step writes them (R25, R34). -/
def Obligations.ConfigurationNeverChanges : Prop :=
  ∀ s t : State, step s = .next t → t.slaveAddr = s.slaveAddr ∧ t.cfg = s.cfg

/-- No rule reads a recorded event (R160), nor anything else the trace records: two states that differ in the trace alone step
alike. The record is the model's own (assumption log 17). -/
def Obligations.TraceIsNeverRead : Prop :=
  ∀ (s : State) (tr : List Obs),
    match step s, step { s with trace := tr } with
    | .next a, .next b => ({ a with trace := [] } : State) = { b with trace := [] }
    | .refused x, .refused y => x = y
    | _, _ => False

/-- The indicator, the notification enable, the receiver enable and the pin are written by the statements the spec names and by
no other (R24, R26, R27, R28, R123). That `INDICATOR` has these two writers and no other is decision D22 of the spec (R24;
assumption log 22): the source lists no other write. The statement is the model's (log 4). -/
def Obligations.ControlRegistersHaveNoOtherWriter : Prop :=
  ∀ s t : State, mainStmt s = .next t →
    (t.indicator ≠ s.indicator → s.mseq = .indOn ∨ s.mseq = .mismatch) ∧
    (t.notifyEn ≠ s.notifyEn → t.notifyEn = true ∧ (s.mseq = .rearm ∨ s.mseq = .mismatch)) ∧
    (t.rxEn ≠ s.rxEn → s.mseq = .mismatch) ∧
    (t.pinMode ≠ s.pinMode ∨ t.pinOut ≠ s.pinOut → s.mseq = .sample ∧ ∃ k, s.sdseq = .start k) ∧
    (t.dstate ≠ s.dstate → s.mseq = .poll ∧ t.dstate = .idle)

/-- A turn of MAIN is its statements: an operation run in one turn ends in a state its statements reach one turn at a time
(R55, decision D19). Both turns are the model's (assumption log 4). -/
def Obligations.MainTurnIsItsStatements : Prop :=
  ∀ s t : State, act .main s = .next t → ∃ n, turns (List.replicate n .stmt) s = .next t

/-- A request run in one turn is the handler's turn and then statements of MAIN (R60, R77). Both turns are the model's
(assumption logs 4 and 21). -/
def Obligations.RequestTurnIsHandlerThenStatements : Prop :=
  ∀ (s t : State) (i : Instr) (rest : List Byte), s.ready = true →
    decode .req s.slaveAddr s.rxq = .ok i rest → act .transact s = .next t →
    ∃ n, turns (.handler :: List.replicate n .stmt) s = .next t
end

