-- ==== Sys2Proof/Laws/Operands.lean ====
section
/-! SUPPORT. The operand forms of Machine/Operands.lean: halves of a word, fields and bits of a stream, byte lists, the sort. -/

namespace Sys2Proof.Machine

/-! ### Halves of a word -/

theorem getLsbD_hiByte (w : Word) (i : Nat) : (hiByte w).getLsbD i = (decide (i < 8) && w.getLsbD (8 + i)) := by
  simp [hiByte]

theorem getLsbD_loByte (w : Word) (i : Nat) : (loByte w).getLsbD i = (decide (i < 8) && w.getLsbD i) := by
  simp [loByte]

theorem loByte_xor (c d : Word) : loByte (c ^^^ d) = loByte c ^^^ loByte d := by
  ext i hi
  simp [loByte]

theorem getLsbD_joinBytes (hi lo : Byte) (i : Nat) :
    (joinBytes hi lo).getLsbD i = if i < 8 then lo.getLsbD i else hi.getLsbD (i - 8) := by
  show (hi ++ lo : BitVec (8 + 8)).getLsbD i = _
  rw [BitVec.getLsbD_append]

@[simp] theorem hiByte_joinBytes (hi lo : Byte) : hiByte (joinBytes hi lo) = hi := by
  apply BitVec.eq_of_getLsbD_eq
  intro i h
  rw [getLsbD_hiByte, getLsbD_joinBytes, if_neg (by omega)]
  simp [h]

@[simp] theorem loByte_joinBytes (hi lo : Byte) : loByte (joinBytes hi lo) = lo := by
  apply BitVec.eq_of_getLsbD_eq
  intro i h
  rw [getLsbD_loByte, getLsbD_joinBytes, if_pos h]
  simp [h]

@[simp] theorem joinBytes_hi_lo (w : Word) : joinBytes (hiByte w) (loByte w) = w := by
  apply BitVec.eq_of_getLsbD_eq
  intro i h
  rw [getLsbD_joinBytes, getLsbD_loByte, getLsbD_hiByte]
  by_cases h8 : i < 8
  · simp [h8]
  · have h1 : i - 8 < 8 := by omega
    have h2 : 8 + (i - 8) = i := by omega
    simp only [h8, h1, h2, if_false, decide_true, Bool.true_and]

/-! ### The request type -/

theorem requestTypeOf_eq_unknown (b : Byte) : requestTypeOf b = .unknown ↔ b ≠ 0x01 ∧ b ≠ 0x02 := by
  unfold requestTypeOf
  split
  · simp_all
  · split <;> simp_all

/-! ### The stream -/

theorem getLsbD_streamOf (h t : Word) (c : Byte) (i : Nat) :
    (streamOf h t c).getLsbD i =
      if i < 8 then c.getLsbD i else if i - 8 < 16 then t.getLsbD (i - 8) else h.getLsbD (i - 8 - 16) := by
  show ((h ++ t : BitVec (16 + 16)) ++ c : BitVec (16 + 16 + 8)).getLsbD i = _
  rw [BitVec.getLsbD_append, BitVec.getLsbD_append]

theorem getLsbD_streamHum (s : SensorBits) (i : Nat) :
    (streamHum s).getLsbD i = (decide (i < 16) && s.getLsbD (24 + i)) := by simp [streamHum]

theorem getLsbD_streamTmp (s : SensorBits) (i : Nat) :
    (streamTmp s).getLsbD i = (decide (i < 16) && s.getLsbD (8 + i)) := by simp [streamTmp]

theorem getLsbD_streamChk (s : SensorBits) (i : Nat) :
    (streamChk s).getLsbD i = (decide (i < 8) && s.getLsbD i) := by simp [streamChk]

@[simp] theorem streamHum_streamOf (h t : Word) (c : Byte) : streamHum (streamOf h t c) = h := by
  apply BitVec.eq_of_getLsbD_eq
  intro i hi
  have h3 : 24 + i - 8 - 16 = i := by omega
  rw [getLsbD_streamHum, getLsbD_streamOf, if_neg (by omega), if_neg (by omega), h3]
  simp [hi]

@[simp] theorem streamTmp_streamOf (h t : Word) (c : Byte) : streamTmp (streamOf h t c) = t := by
  apply BitVec.eq_of_getLsbD_eq
  intro i hi
  have h3 : 8 + i - 8 = i := by omega
  rw [getLsbD_streamTmp, getLsbD_streamOf, if_neg (by omega), if_pos (by omega), h3]
  simp [hi]

@[simp] theorem streamChk_streamOf (h t : Word) (c : Byte) : streamChk (streamOf h t c) = c := by
  apply BitVec.eq_of_getLsbD_eq
  intro i hi
  rw [getLsbD_streamChk, getLsbD_streamOf, if_pos hi]
  simp [hi]

/-- `SBIT[i] <- b` writes stream bit `i` and no other. -/
theorem getLsbD_setStreamBit (s : SensorBits) (i : Nat) (b : Bool) (j : Nat) (hi : i < 40) :
    (setStreamBit s i b).getLsbD j = if j = 39 - i then b else s.getLsbD j := by
  unfold setStreamBit
  rw [if_pos hi]
  by_cases hj : j < 40
  · cases b
    · by_cases h : j = 39 - i
      · simp [h]
      · simp [h, hj]
    · by_cases h : j = 39 - i
      · simp [h]; omega
      · simp [h, hj]
  · rw [BitVec.getLsbD_of_ge _ _ (by omega), BitVec.getLsbD_of_ge _ _ (by omega), if_neg (by omega)]

/-- `SBIT` after bits `i` to `i + n - 1` of `str` have been stored. -/
def fillBits (bs str : SensorBits) : Nat → Nat → SensorBits
  | _, 0 => bs
  | i, n + 1 => fillBits (setStreamBit bs i (streamBit str i)) str (i + 1) n

theorem getLsbD_fillBits (str : SensorBits) (n : Nat) (bs : SensorBits) (i j : Nat) (h : i + n ≤ 40) :
    (fillBits bs str i n).getLsbD j =
      if 40 - (i + n) ≤ j ∧ j < 40 - i then str.getLsbD j else bs.getLsbD j := by
  induction n generalizing bs i with
  | zero => rw [if_neg (by omega)]; rfl
  | succ n ih =>
    rw [fillBits, ih _ _ (by omega), getLsbD_setStreamBit _ _ _ _ (by omega), streamBit]
    by_cases h1 : j = 39 - i
    · subst h1
      rw [if_neg (by omega), if_pos rfl, if_pos (by omega)]
    · rw [if_neg h1]
      by_cases h2 : 40 - (i + (n + 1)) ≤ j ∧ j < 40 - i
      · rw [if_pos h2, if_pos (by omega)]
      · rw [if_neg h2, if_neg (by omega)]

/-- Forty samples determine `SBIT`: no stale bit survives (R134). -/
theorem fillBits_all (bs str : SensorBits) : fillBits bs str 0 40 = str := by
  apply BitVec.eq_of_getLsbD_eq
  intro j hj
  rw [getLsbD_fillBits _ _ _ _ _ (by omega), if_pos (by omega)]

/-! ### Byte lists -/

@[simp] theorem length_wireBytes (n w : Nat) : (wireBytes n w).length = n := by simp [wireBytes]

@[simp] theorem length_streamBytes (h t : Word) (c : Byte) : (streamBytes h t c).length = 5 := rfl

@[simp] theorem length_responseBody (a : Byte) (v : Word) : (responseBody a v).length = 5 := rfl

/-! ### The sort -/

theorem perm_insertDesc (w : Word) (l : List Word) : (insertDesc w l).Perm (w :: l) := by
  induction l with
  | nil => exact List.Perm.refl _
  | cons x xs ih =>
    unfold insertDesc
    split
    · exact List.Perm.refl _
    · exact (ih.cons x).trans (List.Perm.swap w x xs)

theorem perm_sortDesc (l : List Word) : (sortDesc l).Perm l := by
  induction l with
  | nil => exact List.Perm.refl _
  | cons x xs ih => exact (perm_insertDesc x _).trans (ih.cons x)

theorem toList_sortSample (v : Vector Word 9) : (sortSample v).toList = sortDesc v.toList := rfl

end Sys2Proof.Machine
end

