-- ==== Sys2Proof/Laws/Crc.lean ====
section
/-! SUPPORT. The CRC16 Engine: the table listed in spec/40_crc16.md rule R91 is the one the generating rule R92 gives, the step
is linear, and the computation is incremental (R95). -/

namespace Sys2Proof.Machine

/-! ### The listing of R91, thirty-two entries at a time -/

def tabRows0 : List Word :=
  [ 0x0000, 0xC0C1, 0xC181, 0x0140, 0xC301, 0x03C0, 0x0280, 0xC241,
    0xC601, 0x06C0, 0x0780, 0xC741, 0x0500, 0xC5C1, 0xC481, 0x0440,
    0xCC01, 0x0CC0, 0x0D80, 0xCD41, 0x0F00, 0xCFC1, 0xCE81, 0x0E40,
    0x0A00, 0xCAC1, 0xCB81, 0x0B40, 0xC901, 0x09C0, 0x0880, 0xC841 ]

def tabRows1 : List Word :=
  [ 0xD801, 0x18C0, 0x1980, 0xD941, 0x1B00, 0xDBC1, 0xDA81, 0x1A40,
    0x1E00, 0xDEC1, 0xDF81, 0x1F40, 0xDD01, 0x1DC0, 0x1C80, 0xDC41,
    0x1400, 0xD4C1, 0xD581, 0x1540, 0xD701, 0x17C0, 0x1680, 0xD641,
    0xD201, 0x12C0, 0x1380, 0xD341, 0x1100, 0xD1C1, 0xD081, 0x1040 ]

def tabRows2 : List Word :=
  [ 0xF001, 0x30C0, 0x3180, 0xF141, 0x3300, 0xF3C1, 0xF281, 0x3240,
    0x3600, 0xF6C1, 0xF781, 0x3740, 0xF501, 0x35C0, 0x3480, 0xF441,
    0x3C00, 0xFCC1, 0xFD81, 0x3D40, 0xFF01, 0x3FC0, 0x3E80, 0xFE41,
    0xFA01, 0x3AC0, 0x3B80, 0xFB41, 0x3900, 0xF9C1, 0xF881, 0x3840 ]

def tabRows3 : List Word :=
  [ 0x2800, 0xE8C1, 0xE981, 0x2940, 0xEB01, 0x2BC0, 0x2A80, 0xEA41,
    0xEE01, 0x2EC0, 0x2F80, 0xEF41, 0x2D00, 0xEDC1, 0xEC81, 0x2C40,
    0xE401, 0x24C0, 0x2580, 0xE541, 0x2700, 0xE7C1, 0xE681, 0x2640,
    0x2200, 0xE2C1, 0xE381, 0x2340, 0xE101, 0x21C0, 0x2080, 0xE041 ]

def tabRows4 : List Word :=
  [ 0xA001, 0x60C0, 0x6180, 0xA141, 0x6300, 0xA3C1, 0xA281, 0x6240,
    0x6600, 0xA6C1, 0xA781, 0x6740, 0xA501, 0x65C0, 0x6480, 0xA441,
    0x6C00, 0xACC1, 0xAD81, 0x6D40, 0xAF01, 0x6FC0, 0x6E80, 0xAE41,
    0xAA01, 0x6AC0, 0x6B80, 0xAB41, 0x6900, 0xA9C1, 0xA881, 0x6840 ]

def tabRows5 : List Word :=
  [ 0x7800, 0xB8C1, 0xB981, 0x7940, 0xBB01, 0x7BC0, 0x7A80, 0xBA41,
    0xBE01, 0x7EC0, 0x7F80, 0xBF41, 0x7D00, 0xBDC1, 0xBC81, 0x7C40,
    0xB401, 0x74C0, 0x7580, 0xB541, 0x7700, 0xB7C1, 0xB681, 0x7640,
    0x7200, 0xB2C1, 0xB381, 0x7340, 0xB101, 0x71C0, 0x7080, 0xB041 ]

def tabRows6 : List Word :=
  [ 0x5000, 0x90C1, 0x9181, 0x5140, 0x9301, 0x53C0, 0x5280, 0x9241,
    0x9601, 0x56C0, 0x5780, 0x9741, 0x5500, 0x95C1, 0x9481, 0x5440,
    0x9C01, 0x5CC0, 0x5D80, 0x9D41, 0x5F00, 0x9FC1, 0x9E81, 0x5E40,
    0x5A00, 0x9AC1, 0x9B81, 0x5B40, 0x9901, 0x59C0, 0x5880, 0x9841 ]

def tabRows7 : List Word :=
  [ 0x8801, 0x48C0, 0x4980, 0x8941, 0x4B00, 0x8BC1, 0x8A81, 0x4A40,
    0x4E00, 0x8EC1, 0x8F81, 0x4F40, 0x8D01, 0x4DC0, 0x4C80, 0x8C41,
    0x4400, 0x84C1, 0x8581, 0x4540, 0x8701, 0x47C0, 0x4680, 0x8641,
    0x8201, 0x42C0, 0x4380, 0x8341, 0x4100, 0x81C1, 0x8081, 0x4040 ]

/-- `TAB[0..255]` as R91 lists it. -/
def tabListing : List Word :=
  tabRows0 ++ tabRows1 ++ tabRows2 ++ tabRows3 ++ tabRows4 ++ tabRows5 ++ tabRows6 ++ tabRows7

theorem length_tabListing : tabListing.length = 256 := by decide +kernel

/-- The generating rule reproduces the listing entry for entry (R92). -/
theorem tab_eq_listing : ∀ i : Byte, tabListing[i.toNat]? = some (tab i) := by decide +kernel

/-! ### Linearity -/

theorem crcShift_xor (a b : Word) : crcShift (a ^^^ b) = crcShift a ^^^ crcShift b := by
  simp only [crcShift, BitVec.getLsbD_xor]
  cases a.getLsbD 0 <;> cases b.getLsbD 0 <;> simp <;> ext i hi <;> simp <;>
    (generalize (40961#16)[i] = x; cases x <;> simp)

theorem crcShifts_xor (k : Nat) (a b : Word) : crcShifts k (a ^^^ b) = crcShifts k a ^^^ crcShifts k b := by
  induction k generalizing a b with
  | zero => rfl
  | succ k ih => simp [crcShifts, crcShift_xor, ih]

/-- Eight shifts of a word whose low byte is zero only move the high byte down. -/
theorem crcShifts_high : ∀ h : Byte, crcShifts 8 (h.zeroExtend 16 <<< 8) = h.zeroExtend 16 := by decide +kernel

/-- No word but zero is shifted to zero. -/
theorem crcShift_eq_zero (c : Word) (h : crcShift c = 0) : c = 0 := by
  unfold crcShift at h
  split at h
  · have h15 := congrArg (fun w : Word => w.getLsbD 15) h
    simp at h15
  · rename_i h0
    apply BitVec.eq_of_getLsbD_eq
    intro i hi
    rcases i with _ | i
    · simpa using h0
    · have := congrArg (fun w : Word => w.getLsbD i) h
      simpa [Nat.add_comm] using this

theorem tab_xor (a b : Byte) : tab (a ^^^ b) = tab a ^^^ tab b := by
  simp only [tab, ← crcShifts_xor]
  congr 1

/-- The step is linear in the register and the byte together. -/
theorem crcStep_xor (c d : Word) (a b : Byte) : crcStep (c ^^^ d) (a ^^^ b) = crcStep c a ^^^ crcStep d b := by
  have h : loByte (c ^^^ d) ^^^ (a ^^^ b) = (loByte c ^^^ a) ^^^ (loByte d ^^^ b) := by
    rw [loByte_xor]; ac_rfl
  rw [crcStep, h, tab_xor, BitVec.ushiftRight_xor_distrib, crcStep, crcStep]
  ac_rfl

/-! ### The computation -/

theorem crc16_zero (bytes : List Byte) : crc16 bytes 0 = crcInit := rfl

/-- The engine is incremental (R95). -/
theorem crc16_snoc (m : List Byte) (b : Byte) : crc16 (m ++ [b]) (m.length + 1) = crcStep (crc16 m m.length) b := by
  simp [crc16, List.take_of_length_le]

/-- Bytes beyond `length` are not read (R90). -/
theorem crc16_append (m rest : List Byte) : crc16 (m ++ rest) m.length = crc16 m m.length := by
  simp [crc16]

/-- A length at or past the end reads all the bytes there are. -/
theorem crc16_all (m : List Byte) (n : Nat) (h : m.length ≤ n) : crc16 m n = m.foldl crcStep crcInit := by
  rw [crc16, List.take_of_length_le h]

theorem length_withTrailer (body : List Byte) : (withTrailer body).length = body.length + 2 := by
  simp [withTrailer, crcTrailer]

end Sys2Proof.Machine
end

