-- ==== Sys2Proof/Laws/Ops.lean ====
section
/-! SUPPORT. What each named operation of Machine/Ops.lean can do, said once: the blocking read, the pin read, the handler's
entry, the master's bytes, and running an operation's statements. -/

namespace Sys2Proof.Machine

/-! ### The receiver -/

/-- `RxRead()` returns only when a byte is there (R42). -/
theorem State.rxRead_eq_none (s : State) : s.rxRead = none ↔ s.rxq = [] := by
  unfold State.rxRead
  split <;> simp_all

/-- What `RxRead()` returns is the oldest byte, and it changes the queue alone (R42). -/
theorem State.rxRead_eq_some (s t : State) (b : Byte) :
    s.rxRead = some (b, t) ↔ ∃ q, s.rxq = b :: q ∧ t = { s with rxq := q } := by
  unfold State.rxRead
  split
  · simp_all
  · rename_i c q h
    constructor
    · intro he
      cases he
      exact ⟨q, h, rfl⟩
    · rintro ⟨q', h', rfl⟩
      rw [h] at h'
      cases h'
      rfl

theorem State.masterSend_on (s : State) (b : Byte) (h : s.rxEn = true) :
    s.masterSend b = { s with rxq := s.rxq ++ [b] } := by
  simp [State.masterSend, h]

theorem State.masterSend_off (s : State) (b : Byte) (h : s.rxEn = false) : s.masterSend b = s := by
  simp [State.masterSend, h]

/-- Bytes sent in a row are appended in the order sent while the receiver is on (R66). -/
theorem State.masterSendAll_on (s : State) (bytes : List Byte) (h : s.rxEn = true) :
    s.masterSendAll bytes = { s with rxq := s.rxq ++ bytes } := by
  induction bytes generalizing s with
  | nil => simp [State.masterSendAll]
  | cons b bs ih =>
    have := ih (s.masterSend b) (by rw [s.masterSend_on b h]; exact h)
    rw [State.masterSendAll, List.foldl_cons]
    rw [State.masterSendAll] at this
    rw [this, s.masterSend_on b h]
    simp

/-- They are lost while it is off (R67). -/
theorem State.masterSendAll_off (s : State) (bytes : List Byte) (h : s.rxEn = false) : s.masterSendAll bytes = s := by
  induction bytes with
  | nil => rfl
  | cons b bs ih => rw [State.masterSendAll, List.foldl_cons, s.masterSend_off b h]; exact ih

/-! ### The pin -/

/-- In output mode a read sees the driven level and changes nothing (R45). -/
theorem State.pinRead_output (s : State) (h : s.pinMode = .output) : s.pinRead = (s.pinOut, s) := by
  simp [State.pinRead, h]

/-- In input mode a read takes the stimulus's next answer. -/
theorem State.pinRead_input (s : State) (b : Bool) (q : List Bool) (h : s.pinMode = .input) (hq : s.pinq = b :: q) :
    s.pinRead = (b, { s with pinq := q }) := by
  simp [State.pinRead, h, hq]

/-- Where the stimulus is empty the level is a free value. -/
theorem State.pinRead_free (s : State) (h : s.pinMode = .input) (hq : s.pinq = []) :
    s.pinRead = (Config.pinLevel s.tick, { s with tick := s.tick + 1 }) := by
  simp [State.pinRead, h, hq]

/-- Whatever it answers, a read writes no register (R45, R56). -/
theorem State.pinRead_frame (s : State) : ∃ q k, s.pinRead.2 = { s with pinq := q, tick := k } := by
  unfold State.pinRead
  split
  · exact ⟨s.pinq, s.tick, rfl⟩
  · split
    · exact ⟨s.pinq, s.tick + 1, rfl⟩
    · exact ⟨_, s.tick, rfl⟩

/-! ### The notification -/

theorem State.notifyReady_iff (s : State) :
    s.notifyReady = true ↔ s.notifyEn = true ∧ s.rxEn = true ∧ s.rxq ≠ [] := by
  simp [State.notifyReady, State.notifyPending]

/-- What the handler leaves (R110, R171). -/
theorem State.takeNotification_cons (s : State) (b : Byte) (q : List Byte) (h : s.rxq = b :: q) :
    s.takeNotification =
      { s with rxq := q, req := s.req.set 0 b, dstate := classify s.slaveAddr b, notifyEn := false } := by
  simp [State.takeNotification, h]

theorem classify_eq_matched (slave b : Byte) : classify slave b = .addressMatched ↔ b = slave := by
  unfold classify
  split <;> simp_all

theorem classify_eq_mismatched (slave b : Byte) : classify slave b = .addressMismatched ↔ b ≠ slave := by
  unfold classify
  split <;> simp_all

/-- A classification is never `Idle` (R110). -/
theorem classify_ne_idle (slave b : Byte) : classify slave b ≠ .idle := by
  unfold classify
  split <;> simp

/-! ### Statements -/

theorem remaining_ne_nil (stmts : List (State → State)) (sub : Nat) (h : stmts ≠ []) : remaining stmts sub ≠ [] := by
  have : 0 < stmts.length := List.length_pos_iff.mpr h
  intro he
  have := congrArg List.length he
  simp [remaining] at this
  omega

theorem runStmts_zero (stmts : List (State → State)) (s : State) (h : s.sub = 0) :
    runStmts stmts s = stmts.foldl (fun t f => f t) s := by
  simp [runStmts, remaining, h]

theorem oneStmt_eq (stmts : List (State → State)) (s : State) (f : State → State) (fs : List (State → State))
    (h : remaining stmts s.sub = f :: fs) : oneStmt stmts s = f s := by
  simp [oneStmt, h]

/-! ### Reset -/

/-- A reset event leaves the configuration, the stimuli and the record, and the reset value of everything else. -/
theorem State.resetEvent_eq (s : State) :
    s.resetEvent =
      { State.resetWith s.slaveAddr s.cfg with pinq := s.pinq, trace := s.trace, sched := s.sched, tick := s.tick } := rfl

end Sys2Proof.Machine
end

