-- ==== Sys2Proof/Laws/State.lean ====
section
/-! SUPPORT. One lemma per field per update of `State`, each true by `rfl`: what a named update leaves in every field. -/

namespace Sys2Proof.Machine

section log
variable (s : State) (o : Obs)
@[simp] theorem State.log_crc : (s.log o).crc = s.crc := rfl
@[simp] theorem State.log_req : (s.log o).req = s.req := rfl
@[simp] theorem State.log_rsp : (s.log o).rsp = s.rsp := rfl
@[simp] theorem State.log_sbit : (s.log o).sbit = s.sbit := rfl
@[simp] theorem State.log_hum : (s.log o).hum = s.hum := rfl
@[simp] theorem State.log_tmp : (s.log o).tmp = s.tmp := rfl
@[simp] theorem State.log_chk : (s.log o).chk = s.chk := rfl
@[simp] theorem State.log_sample : (s.log o).sample = s.sample := rfl
@[simp] theorem State.log_value : (s.log o).value = s.value := rfl
@[simp] theorem State.log_rtype : (s.log o).rtype = s.rtype := rfl
@[simp] theorem State.log_mseq : (s.log o).mseq = s.mseq := rfl
@[simp] theorem State.log_sdseq : (s.log o).sdseq = s.sdseq := rfl
@[simp] theorem State.log_bitIdx : (s.log o).bitIdx = s.bitIdx := rfl
@[simp] theorem State.log_smpIdx : (s.log o).smpIdx = s.smpIdx := rfl
@[simp] theorem State.log_byteIdx : (s.log o).byteIdx = s.byteIdx := rfl
@[simp] theorem State.log_dstate : (s.log o).dstate = s.dstate := rfl
@[simp] theorem State.log_crcOk : (s.log o).crcOk = s.crcOk := rfl
@[simp] theorem State.log_chkOk : (s.log o).chkOk = s.chkOk := rfl
@[simp] theorem State.log_indicator : (s.log o).indicator = s.indicator := rfl
@[simp] theorem State.log_slaveAddr : (s.log o).slaveAddr = s.slaveAddr := rfl
@[simp] theorem State.log_notifyEn : (s.log o).notifyEn = s.notifyEn := rfl
@[simp] theorem State.log_rxEn : (s.log o).rxEn = s.rxEn := rfl
@[simp] theorem State.log_pinMode : (s.log o).pinMode = s.pinMode := rfl
@[simp] theorem State.log_pinOut : (s.log o).pinOut = s.pinOut := rfl
@[simp] theorem State.log_rxq : (s.log o).rxq = s.rxq := rfl
@[simp] theorem State.log_txlog : (s.log o).txlog = s.txlog := rfl
@[simp] theorem State.log_pinq : (s.log o).pinq = s.pinq := rfl
@[simp] theorem State.log_cfg : (s.log o).cfg = s.cfg := rfl
@[simp] theorem State.log_sub : (s.log o).sub = s.sub := rfl
@[simp] theorem State.log_trace : (s.log o).trace = s.trace ++ [o] := rfl
@[simp] theorem State.log_sched : (s.log o).sched = s.sched := rfl
@[simp] theorem State.log_tick : (s.log o).tick = s.tick := rfl
end log

section raise
variable (s : State) (e : Event)
@[simp] theorem State.raise_crc : (s.raise e).crc = s.crc := rfl
@[simp] theorem State.raise_req : (s.raise e).req = s.req := rfl
@[simp] theorem State.raise_rsp : (s.raise e).rsp = s.rsp := rfl
@[simp] theorem State.raise_sbit : (s.raise e).sbit = s.sbit := rfl
@[simp] theorem State.raise_hum : (s.raise e).hum = s.hum := rfl
@[simp] theorem State.raise_tmp : (s.raise e).tmp = s.tmp := rfl
@[simp] theorem State.raise_chk : (s.raise e).chk = s.chk := rfl
@[simp] theorem State.raise_sample : (s.raise e).sample = s.sample := rfl
@[simp] theorem State.raise_value : (s.raise e).value = s.value := rfl
@[simp] theorem State.raise_rtype : (s.raise e).rtype = s.rtype := rfl
@[simp] theorem State.raise_mseq : (s.raise e).mseq = s.mseq := rfl
@[simp] theorem State.raise_sdseq : (s.raise e).sdseq = s.sdseq := rfl
@[simp] theorem State.raise_bitIdx : (s.raise e).bitIdx = s.bitIdx := rfl
@[simp] theorem State.raise_smpIdx : (s.raise e).smpIdx = s.smpIdx := rfl
@[simp] theorem State.raise_byteIdx : (s.raise e).byteIdx = s.byteIdx := rfl
@[simp] theorem State.raise_dstate : (s.raise e).dstate = s.dstate := rfl
@[simp] theorem State.raise_crcOk : (s.raise e).crcOk = s.crcOk := rfl
@[simp] theorem State.raise_chkOk : (s.raise e).chkOk = s.chkOk := rfl
@[simp] theorem State.raise_indicator : (s.raise e).indicator = s.indicator := rfl
@[simp] theorem State.raise_slaveAddr : (s.raise e).slaveAddr = s.slaveAddr := rfl
@[simp] theorem State.raise_notifyEn : (s.raise e).notifyEn = s.notifyEn := rfl
@[simp] theorem State.raise_rxEn : (s.raise e).rxEn = s.rxEn := rfl
@[simp] theorem State.raise_pinMode : (s.raise e).pinMode = s.pinMode := rfl
@[simp] theorem State.raise_pinOut : (s.raise e).pinOut = s.pinOut := rfl
@[simp] theorem State.raise_rxq : (s.raise e).rxq = s.rxq := rfl
@[simp] theorem State.raise_txlog : (s.raise e).txlog = s.txlog := rfl
@[simp] theorem State.raise_pinq : (s.raise e).pinq = s.pinq := rfl
@[simp] theorem State.raise_cfg : (s.raise e).cfg = s.cfg := rfl
@[simp] theorem State.raise_sub : (s.raise e).sub = s.sub := rfl
@[simp] theorem State.raise_trace : (s.raise e).trace = s.trace ++ [.event e] := rfl
@[simp] theorem State.raise_sched : (s.raise e).sched = s.sched := rfl
@[simp] theorem State.raise_tick : (s.raise e).tick = s.tick := rfl
end raise

section delay
variable (s : State) (d : Duration)
@[simp] theorem State.delay_crc : (s.delay d).crc = s.crc := rfl
@[simp] theorem State.delay_req : (s.delay d).req = s.req := rfl
@[simp] theorem State.delay_rsp : (s.delay d).rsp = s.rsp := rfl
@[simp] theorem State.delay_sbit : (s.delay d).sbit = s.sbit := rfl
@[simp] theorem State.delay_hum : (s.delay d).hum = s.hum := rfl
@[simp] theorem State.delay_tmp : (s.delay d).tmp = s.tmp := rfl
@[simp] theorem State.delay_chk : (s.delay d).chk = s.chk := rfl
@[simp] theorem State.delay_sample : (s.delay d).sample = s.sample := rfl
@[simp] theorem State.delay_value : (s.delay d).value = s.value := rfl
@[simp] theorem State.delay_rtype : (s.delay d).rtype = s.rtype := rfl
@[simp] theorem State.delay_mseq : (s.delay d).mseq = s.mseq := rfl
@[simp] theorem State.delay_sdseq : (s.delay d).sdseq = s.sdseq := rfl
@[simp] theorem State.delay_bitIdx : (s.delay d).bitIdx = s.bitIdx := rfl
@[simp] theorem State.delay_smpIdx : (s.delay d).smpIdx = s.smpIdx := rfl
@[simp] theorem State.delay_byteIdx : (s.delay d).byteIdx = s.byteIdx := rfl
@[simp] theorem State.delay_dstate : (s.delay d).dstate = s.dstate := rfl
@[simp] theorem State.delay_crcOk : (s.delay d).crcOk = s.crcOk := rfl
@[simp] theorem State.delay_chkOk : (s.delay d).chkOk = s.chkOk := rfl
@[simp] theorem State.delay_indicator : (s.delay d).indicator = s.indicator := rfl
@[simp] theorem State.delay_slaveAddr : (s.delay d).slaveAddr = s.slaveAddr := rfl
@[simp] theorem State.delay_notifyEn : (s.delay d).notifyEn = s.notifyEn := rfl
@[simp] theorem State.delay_rxEn : (s.delay d).rxEn = s.rxEn := rfl
@[simp] theorem State.delay_pinMode : (s.delay d).pinMode = s.pinMode := rfl
@[simp] theorem State.delay_pinOut : (s.delay d).pinOut = s.pinOut := rfl
@[simp] theorem State.delay_rxq : (s.delay d).rxq = s.rxq := rfl
@[simp] theorem State.delay_txlog : (s.delay d).txlog = s.txlog := rfl
@[simp] theorem State.delay_pinq : (s.delay d).pinq = s.pinq := rfl
@[simp] theorem State.delay_cfg : (s.delay d).cfg = s.cfg := rfl
@[simp] theorem State.delay_sub : (s.delay d).sub = s.sub := rfl
@[simp] theorem State.delay_trace : (s.delay d).trace = s.trace ++ [.delay d] := rfl
@[simp] theorem State.delay_sched : (s.delay d).sched = s.sched := rfl
@[simp] theorem State.delay_tick : (s.delay d).tick = s.tick := rfl
end delay

section diag
variable (s : State) (k : DiagKind)
@[simp] theorem State.diag_crc : (s.diag k).crc = s.crc := rfl
@[simp] theorem State.diag_req : (s.diag k).req = s.req := rfl
@[simp] theorem State.diag_rsp : (s.diag k).rsp = s.rsp := rfl
@[simp] theorem State.diag_sbit : (s.diag k).sbit = s.sbit := rfl
@[simp] theorem State.diag_hum : (s.diag k).hum = s.hum := rfl
@[simp] theorem State.diag_tmp : (s.diag k).tmp = s.tmp := rfl
@[simp] theorem State.diag_chk : (s.diag k).chk = s.chk := rfl
@[simp] theorem State.diag_sample : (s.diag k).sample = s.sample := rfl
@[simp] theorem State.diag_value : (s.diag k).value = s.value := rfl
@[simp] theorem State.diag_rtype : (s.diag k).rtype = s.rtype := rfl
@[simp] theorem State.diag_mseq : (s.diag k).mseq = s.mseq := rfl
@[simp] theorem State.diag_sdseq : (s.diag k).sdseq = s.sdseq := rfl
@[simp] theorem State.diag_bitIdx : (s.diag k).bitIdx = s.bitIdx := rfl
@[simp] theorem State.diag_smpIdx : (s.diag k).smpIdx = s.smpIdx := rfl
@[simp] theorem State.diag_byteIdx : (s.diag k).byteIdx = s.byteIdx := rfl
@[simp] theorem State.diag_dstate : (s.diag k).dstate = s.dstate := rfl
@[simp] theorem State.diag_crcOk : (s.diag k).crcOk = s.crcOk := rfl
@[simp] theorem State.diag_chkOk : (s.diag k).chkOk = s.chkOk := rfl
@[simp] theorem State.diag_indicator : (s.diag k).indicator = s.indicator := rfl
@[simp] theorem State.diag_slaveAddr : (s.diag k).slaveAddr = s.slaveAddr := rfl
@[simp] theorem State.diag_notifyEn : (s.diag k).notifyEn = s.notifyEn := rfl
@[simp] theorem State.diag_rxEn : (s.diag k).rxEn = s.rxEn := rfl
@[simp] theorem State.diag_pinMode : (s.diag k).pinMode = s.pinMode := rfl
@[simp] theorem State.diag_pinOut : (s.diag k).pinOut = s.pinOut := rfl
@[simp] theorem State.diag_rxq : (s.diag k).rxq = s.rxq := rfl
@[simp] theorem State.diag_txlog : (s.diag k).txlog = s.txlog := rfl
@[simp] theorem State.diag_pinq : (s.diag k).pinq = s.pinq := rfl
@[simp] theorem State.diag_cfg : (s.diag k).cfg = s.cfg := rfl
@[simp] theorem State.diag_sub : (s.diag k).sub = s.sub := rfl
@[simp] theorem State.diag_trace : (s.diag k).trace = s.trace ++ [.diag k] := rfl
@[simp] theorem State.diag_sched : (s.diag k).sched = s.sched := rfl
@[simp] theorem State.diag_tick : (s.diag k).tick = s.tick := rfl
end diag

section goto
variable (s : State) (m : MSeq)
@[simp] theorem State.goto_crc : (s.goto m).crc = s.crc := rfl
@[simp] theorem State.goto_req : (s.goto m).req = s.req := rfl
@[simp] theorem State.goto_rsp : (s.goto m).rsp = s.rsp := rfl
@[simp] theorem State.goto_sbit : (s.goto m).sbit = s.sbit := rfl
@[simp] theorem State.goto_hum : (s.goto m).hum = s.hum := rfl
@[simp] theorem State.goto_tmp : (s.goto m).tmp = s.tmp := rfl
@[simp] theorem State.goto_chk : (s.goto m).chk = s.chk := rfl
@[simp] theorem State.goto_sample : (s.goto m).sample = s.sample := rfl
@[simp] theorem State.goto_value : (s.goto m).value = s.value := rfl
@[simp] theorem State.goto_rtype : (s.goto m).rtype = s.rtype := rfl
@[simp] theorem State.goto_mseq : (s.goto m).mseq = m := rfl
@[simp] theorem State.goto_sdseq : (s.goto m).sdseq = s.sdseq := rfl
@[simp] theorem State.goto_bitIdx : (s.goto m).bitIdx = s.bitIdx := rfl
@[simp] theorem State.goto_smpIdx : (s.goto m).smpIdx = s.smpIdx := rfl
@[simp] theorem State.goto_byteIdx : (s.goto m).byteIdx = s.byteIdx := rfl
@[simp] theorem State.goto_dstate : (s.goto m).dstate = s.dstate := rfl
@[simp] theorem State.goto_crcOk : (s.goto m).crcOk = s.crcOk := rfl
@[simp] theorem State.goto_chkOk : (s.goto m).chkOk = s.chkOk := rfl
@[simp] theorem State.goto_indicator : (s.goto m).indicator = s.indicator := rfl
@[simp] theorem State.goto_slaveAddr : (s.goto m).slaveAddr = s.slaveAddr := rfl
@[simp] theorem State.goto_notifyEn : (s.goto m).notifyEn = s.notifyEn := rfl
@[simp] theorem State.goto_rxEn : (s.goto m).rxEn = s.rxEn := rfl
@[simp] theorem State.goto_pinMode : (s.goto m).pinMode = s.pinMode := rfl
@[simp] theorem State.goto_pinOut : (s.goto m).pinOut = s.pinOut := rfl
@[simp] theorem State.goto_rxq : (s.goto m).rxq = s.rxq := rfl
@[simp] theorem State.goto_txlog : (s.goto m).txlog = s.txlog := rfl
@[simp] theorem State.goto_pinq : (s.goto m).pinq = s.pinq := rfl
@[simp] theorem State.goto_cfg : (s.goto m).cfg = s.cfg := rfl
@[simp] theorem State.goto_sub : (s.goto m).sub = 0 := rfl
@[simp] theorem State.goto_trace : (s.goto m).trace = s.trace := rfl
@[simp] theorem State.goto_sched : (s.goto m).sched = s.sched := rfl
@[simp] theorem State.goto_tick : (s.goto m).tick = s.tick := rfl
end goto

section sdGoto
variable (s : State) (q : SdSeq)
@[simp] theorem State.sdGoto_crc : (s.sdGoto q).crc = s.crc := rfl
@[simp] theorem State.sdGoto_req : (s.sdGoto q).req = s.req := rfl
@[simp] theorem State.sdGoto_rsp : (s.sdGoto q).rsp = s.rsp := rfl
@[simp] theorem State.sdGoto_sbit : (s.sdGoto q).sbit = s.sbit := rfl
@[simp] theorem State.sdGoto_hum : (s.sdGoto q).hum = s.hum := rfl
@[simp] theorem State.sdGoto_tmp : (s.sdGoto q).tmp = s.tmp := rfl
@[simp] theorem State.sdGoto_chk : (s.sdGoto q).chk = s.chk := rfl
@[simp] theorem State.sdGoto_sample : (s.sdGoto q).sample = s.sample := rfl
@[simp] theorem State.sdGoto_value : (s.sdGoto q).value = s.value := rfl
@[simp] theorem State.sdGoto_rtype : (s.sdGoto q).rtype = s.rtype := rfl
@[simp] theorem State.sdGoto_mseq : (s.sdGoto q).mseq = s.mseq := rfl
@[simp] theorem State.sdGoto_sdseq : (s.sdGoto q).sdseq = q := rfl
@[simp] theorem State.sdGoto_bitIdx : (s.sdGoto q).bitIdx = s.bitIdx := rfl
@[simp] theorem State.sdGoto_smpIdx : (s.sdGoto q).smpIdx = s.smpIdx := rfl
@[simp] theorem State.sdGoto_byteIdx : (s.sdGoto q).byteIdx = s.byteIdx := rfl
@[simp] theorem State.sdGoto_dstate : (s.sdGoto q).dstate = s.dstate := rfl
@[simp] theorem State.sdGoto_crcOk : (s.sdGoto q).crcOk = s.crcOk := rfl
@[simp] theorem State.sdGoto_chkOk : (s.sdGoto q).chkOk = s.chkOk := rfl
@[simp] theorem State.sdGoto_indicator : (s.sdGoto q).indicator = s.indicator := rfl
@[simp] theorem State.sdGoto_slaveAddr : (s.sdGoto q).slaveAddr = s.slaveAddr := rfl
@[simp] theorem State.sdGoto_notifyEn : (s.sdGoto q).notifyEn = s.notifyEn := rfl
@[simp] theorem State.sdGoto_rxEn : (s.sdGoto q).rxEn = s.rxEn := rfl
@[simp] theorem State.sdGoto_pinMode : (s.sdGoto q).pinMode = s.pinMode := rfl
@[simp] theorem State.sdGoto_pinOut : (s.sdGoto q).pinOut = s.pinOut := rfl
@[simp] theorem State.sdGoto_rxq : (s.sdGoto q).rxq = s.rxq := rfl
@[simp] theorem State.sdGoto_txlog : (s.sdGoto q).txlog = s.txlog := rfl
@[simp] theorem State.sdGoto_pinq : (s.sdGoto q).pinq = s.pinq := rfl
@[simp] theorem State.sdGoto_cfg : (s.sdGoto q).cfg = s.cfg := rfl
@[simp] theorem State.sdGoto_sub : (s.sdGoto q).sub = s.sub := rfl
@[simp] theorem State.sdGoto_trace : (s.sdGoto q).trace = s.trace := rfl
@[simp] theorem State.sdGoto_sched : (s.sdGoto q).sched = s.sched := rfl
@[simp] theorem State.sdGoto_tick : (s.sdGoto q).tick = s.tick := rfl
end sdGoto

section txWrite
variable (s : State) (b : Byte)
@[simp] theorem State.txWrite_crc : (s.txWrite b).crc = s.crc := rfl
@[simp] theorem State.txWrite_req : (s.txWrite b).req = s.req := rfl
@[simp] theorem State.txWrite_rsp : (s.txWrite b).rsp = s.rsp := rfl
@[simp] theorem State.txWrite_sbit : (s.txWrite b).sbit = s.sbit := rfl
@[simp] theorem State.txWrite_hum : (s.txWrite b).hum = s.hum := rfl
@[simp] theorem State.txWrite_tmp : (s.txWrite b).tmp = s.tmp := rfl
@[simp] theorem State.txWrite_chk : (s.txWrite b).chk = s.chk := rfl
@[simp] theorem State.txWrite_sample : (s.txWrite b).sample = s.sample := rfl
@[simp] theorem State.txWrite_value : (s.txWrite b).value = s.value := rfl
@[simp] theorem State.txWrite_rtype : (s.txWrite b).rtype = s.rtype := rfl
@[simp] theorem State.txWrite_mseq : (s.txWrite b).mseq = s.mseq := rfl
@[simp] theorem State.txWrite_sdseq : (s.txWrite b).sdseq = s.sdseq := rfl
@[simp] theorem State.txWrite_bitIdx : (s.txWrite b).bitIdx = s.bitIdx := rfl
@[simp] theorem State.txWrite_smpIdx : (s.txWrite b).smpIdx = s.smpIdx := rfl
@[simp] theorem State.txWrite_byteIdx : (s.txWrite b).byteIdx = s.byteIdx := rfl
@[simp] theorem State.txWrite_dstate : (s.txWrite b).dstate = s.dstate := rfl
@[simp] theorem State.txWrite_crcOk : (s.txWrite b).crcOk = s.crcOk := rfl
@[simp] theorem State.txWrite_chkOk : (s.txWrite b).chkOk = s.chkOk := rfl
@[simp] theorem State.txWrite_indicator : (s.txWrite b).indicator = s.indicator := rfl
@[simp] theorem State.txWrite_slaveAddr : (s.txWrite b).slaveAddr = s.slaveAddr := rfl
@[simp] theorem State.txWrite_notifyEn : (s.txWrite b).notifyEn = s.notifyEn := rfl
@[simp] theorem State.txWrite_rxEn : (s.txWrite b).rxEn = s.rxEn := rfl
@[simp] theorem State.txWrite_pinMode : (s.txWrite b).pinMode = s.pinMode := rfl
@[simp] theorem State.txWrite_pinOut : (s.txWrite b).pinOut = s.pinOut := rfl
@[simp] theorem State.txWrite_rxq : (s.txWrite b).rxq = s.rxq := rfl
@[simp] theorem State.txWrite_txlog : (s.txWrite b).txlog = s.txlog ++ [b] := rfl
@[simp] theorem State.txWrite_pinq : (s.txWrite b).pinq = s.pinq := rfl
@[simp] theorem State.txWrite_cfg : (s.txWrite b).cfg = s.cfg := rfl
@[simp] theorem State.txWrite_sub : (s.txWrite b).sub = s.sub := rfl
@[simp] theorem State.txWrite_trace : (s.txWrite b).trace = s.trace := rfl
@[simp] theorem State.txWrite_sched : (s.txWrite b).sched = s.sched := rfl
@[simp] theorem State.txWrite_tick : (s.txWrite b).tick = s.tick := rfl
end txWrite

section setPinMode
variable (s : State) (m : PinMode)
@[simp] theorem State.setPinMode_crc : (s.setPinMode m).crc = s.crc := rfl
@[simp] theorem State.setPinMode_req : (s.setPinMode m).req = s.req := rfl
@[simp] theorem State.setPinMode_rsp : (s.setPinMode m).rsp = s.rsp := rfl
@[simp] theorem State.setPinMode_sbit : (s.setPinMode m).sbit = s.sbit := rfl
@[simp] theorem State.setPinMode_hum : (s.setPinMode m).hum = s.hum := rfl
@[simp] theorem State.setPinMode_tmp : (s.setPinMode m).tmp = s.tmp := rfl
@[simp] theorem State.setPinMode_chk : (s.setPinMode m).chk = s.chk := rfl
@[simp] theorem State.setPinMode_sample : (s.setPinMode m).sample = s.sample := rfl
@[simp] theorem State.setPinMode_value : (s.setPinMode m).value = s.value := rfl
@[simp] theorem State.setPinMode_rtype : (s.setPinMode m).rtype = s.rtype := rfl
@[simp] theorem State.setPinMode_mseq : (s.setPinMode m).mseq = s.mseq := rfl
@[simp] theorem State.setPinMode_sdseq : (s.setPinMode m).sdseq = s.sdseq := rfl
@[simp] theorem State.setPinMode_bitIdx : (s.setPinMode m).bitIdx = s.bitIdx := rfl
@[simp] theorem State.setPinMode_smpIdx : (s.setPinMode m).smpIdx = s.smpIdx := rfl
@[simp] theorem State.setPinMode_byteIdx : (s.setPinMode m).byteIdx = s.byteIdx := rfl
@[simp] theorem State.setPinMode_dstate : (s.setPinMode m).dstate = s.dstate := rfl
@[simp] theorem State.setPinMode_crcOk : (s.setPinMode m).crcOk = s.crcOk := rfl
@[simp] theorem State.setPinMode_chkOk : (s.setPinMode m).chkOk = s.chkOk := rfl
@[simp] theorem State.setPinMode_indicator : (s.setPinMode m).indicator = s.indicator := rfl
@[simp] theorem State.setPinMode_slaveAddr : (s.setPinMode m).slaveAddr = s.slaveAddr := rfl
@[simp] theorem State.setPinMode_notifyEn : (s.setPinMode m).notifyEn = s.notifyEn := rfl
@[simp] theorem State.setPinMode_rxEn : (s.setPinMode m).rxEn = s.rxEn := rfl
@[simp] theorem State.setPinMode_pinMode : (s.setPinMode m).pinMode = m := rfl
@[simp] theorem State.setPinMode_pinOut : (s.setPinMode m).pinOut = s.pinOut := rfl
@[simp] theorem State.setPinMode_rxq : (s.setPinMode m).rxq = s.rxq := rfl
@[simp] theorem State.setPinMode_txlog : (s.setPinMode m).txlog = s.txlog := rfl
@[simp] theorem State.setPinMode_pinq : (s.setPinMode m).pinq = s.pinq := rfl
@[simp] theorem State.setPinMode_cfg : (s.setPinMode m).cfg = s.cfg := rfl
@[simp] theorem State.setPinMode_sub : (s.setPinMode m).sub = s.sub := rfl
@[simp] theorem State.setPinMode_trace : (s.setPinMode m).trace = s.trace ++ [.pinMode m] := rfl
@[simp] theorem State.setPinMode_sched : (s.setPinMode m).sched = s.sched := rfl
@[simp] theorem State.setPinMode_tick : (s.setPinMode m).tick = s.tick := rfl
end setPinMode

section drivePin
variable (s : State) (l : Bool)
@[simp] theorem State.drivePin_crc : (s.drivePin l).crc = s.crc := rfl
@[simp] theorem State.drivePin_req : (s.drivePin l).req = s.req := rfl
@[simp] theorem State.drivePin_rsp : (s.drivePin l).rsp = s.rsp := rfl
@[simp] theorem State.drivePin_sbit : (s.drivePin l).sbit = s.sbit := rfl
@[simp] theorem State.drivePin_hum : (s.drivePin l).hum = s.hum := rfl
@[simp] theorem State.drivePin_tmp : (s.drivePin l).tmp = s.tmp := rfl
@[simp] theorem State.drivePin_chk : (s.drivePin l).chk = s.chk := rfl
@[simp] theorem State.drivePin_sample : (s.drivePin l).sample = s.sample := rfl
@[simp] theorem State.drivePin_value : (s.drivePin l).value = s.value := rfl
@[simp] theorem State.drivePin_rtype : (s.drivePin l).rtype = s.rtype := rfl
@[simp] theorem State.drivePin_mseq : (s.drivePin l).mseq = s.mseq := rfl
@[simp] theorem State.drivePin_sdseq : (s.drivePin l).sdseq = s.sdseq := rfl
@[simp] theorem State.drivePin_bitIdx : (s.drivePin l).bitIdx = s.bitIdx := rfl
@[simp] theorem State.drivePin_smpIdx : (s.drivePin l).smpIdx = s.smpIdx := rfl
@[simp] theorem State.drivePin_byteIdx : (s.drivePin l).byteIdx = s.byteIdx := rfl
@[simp] theorem State.drivePin_dstate : (s.drivePin l).dstate = s.dstate := rfl
@[simp] theorem State.drivePin_crcOk : (s.drivePin l).crcOk = s.crcOk := rfl
@[simp] theorem State.drivePin_chkOk : (s.drivePin l).chkOk = s.chkOk := rfl
@[simp] theorem State.drivePin_indicator : (s.drivePin l).indicator = s.indicator := rfl
@[simp] theorem State.drivePin_slaveAddr : (s.drivePin l).slaveAddr = s.slaveAddr := rfl
@[simp] theorem State.drivePin_notifyEn : (s.drivePin l).notifyEn = s.notifyEn := rfl
@[simp] theorem State.drivePin_rxEn : (s.drivePin l).rxEn = s.rxEn := rfl
@[simp] theorem State.drivePin_pinMode : (s.drivePin l).pinMode = s.pinMode := rfl
@[simp] theorem State.drivePin_pinOut : (s.drivePin l).pinOut = l := rfl
@[simp] theorem State.drivePin_rxq : (s.drivePin l).rxq = s.rxq := rfl
@[simp] theorem State.drivePin_txlog : (s.drivePin l).txlog = s.txlog := rfl
@[simp] theorem State.drivePin_pinq : (s.drivePin l).pinq = s.pinq := rfl
@[simp] theorem State.drivePin_cfg : (s.drivePin l).cfg = s.cfg := rfl
@[simp] theorem State.drivePin_sub : (s.drivePin l).sub = s.sub := rfl
@[simp] theorem State.drivePin_trace : (s.drivePin l).trace = s.trace ++ [.pinDrive l] := rfl
@[simp] theorem State.drivePin_sched : (s.drivePin l).sched = s.sched := rfl
@[simp] theorem State.drivePin_tick : (s.drivePin l).tick = s.tick := rfl
end drivePin

section rxOff
variable (s : State)
@[simp] theorem State.rxOff_crc : (s.rxOff).crc = s.crc := rfl
@[simp] theorem State.rxOff_req : (s.rxOff).req = s.req := rfl
@[simp] theorem State.rxOff_rsp : (s.rxOff).rsp = s.rsp := rfl
@[simp] theorem State.rxOff_sbit : (s.rxOff).sbit = s.sbit := rfl
@[simp] theorem State.rxOff_hum : (s.rxOff).hum = s.hum := rfl
@[simp] theorem State.rxOff_tmp : (s.rxOff).tmp = s.tmp := rfl
@[simp] theorem State.rxOff_chk : (s.rxOff).chk = s.chk := rfl
@[simp] theorem State.rxOff_sample : (s.rxOff).sample = s.sample := rfl
@[simp] theorem State.rxOff_value : (s.rxOff).value = s.value := rfl
@[simp] theorem State.rxOff_rtype : (s.rxOff).rtype = s.rtype := rfl
@[simp] theorem State.rxOff_mseq : (s.rxOff).mseq = s.mseq := rfl
@[simp] theorem State.rxOff_sdseq : (s.rxOff).sdseq = s.sdseq := rfl
@[simp] theorem State.rxOff_bitIdx : (s.rxOff).bitIdx = s.bitIdx := rfl
@[simp] theorem State.rxOff_smpIdx : (s.rxOff).smpIdx = s.smpIdx := rfl
@[simp] theorem State.rxOff_byteIdx : (s.rxOff).byteIdx = s.byteIdx := rfl
@[simp] theorem State.rxOff_dstate : (s.rxOff).dstate = s.dstate := rfl
@[simp] theorem State.rxOff_crcOk : (s.rxOff).crcOk = s.crcOk := rfl
@[simp] theorem State.rxOff_chkOk : (s.rxOff).chkOk = s.chkOk := rfl
@[simp] theorem State.rxOff_indicator : (s.rxOff).indicator = s.indicator := rfl
@[simp] theorem State.rxOff_slaveAddr : (s.rxOff).slaveAddr = s.slaveAddr := rfl
@[simp] theorem State.rxOff_notifyEn : (s.rxOff).notifyEn = s.notifyEn := rfl
@[simp] theorem State.rxOff_rxEn : (s.rxOff).rxEn = false := rfl
@[simp] theorem State.rxOff_pinMode : (s.rxOff).pinMode = s.pinMode := rfl
@[simp] theorem State.rxOff_pinOut : (s.rxOff).pinOut = s.pinOut := rfl
@[simp] theorem State.rxOff_rxq : (s.rxOff).rxq = [] := rfl
@[simp] theorem State.rxOff_txlog : (s.rxOff).txlog = s.txlog := rfl
@[simp] theorem State.rxOff_pinq : (s.rxOff).pinq = s.pinq := rfl
@[simp] theorem State.rxOff_cfg : (s.rxOff).cfg = s.cfg := rfl
@[simp] theorem State.rxOff_sub : (s.rxOff).sub = s.sub := rfl
@[simp] theorem State.rxOff_trace : (s.rxOff).trace = s.trace := rfl
@[simp] theorem State.rxOff_sched : (s.rxOff).sched = s.sched := rfl
@[simp] theorem State.rxOff_tick : (s.rxOff).tick = s.tick := rfl
end rxOff

section rxOn
variable (s : State)
@[simp] theorem State.rxOn_crc : (s.rxOn).crc = s.crc := rfl
@[simp] theorem State.rxOn_req : (s.rxOn).req = s.req := rfl
@[simp] theorem State.rxOn_rsp : (s.rxOn).rsp = s.rsp := rfl
@[simp] theorem State.rxOn_sbit : (s.rxOn).sbit = s.sbit := rfl
@[simp] theorem State.rxOn_hum : (s.rxOn).hum = s.hum := rfl
@[simp] theorem State.rxOn_tmp : (s.rxOn).tmp = s.tmp := rfl
@[simp] theorem State.rxOn_chk : (s.rxOn).chk = s.chk := rfl
@[simp] theorem State.rxOn_sample : (s.rxOn).sample = s.sample := rfl
@[simp] theorem State.rxOn_value : (s.rxOn).value = s.value := rfl
@[simp] theorem State.rxOn_rtype : (s.rxOn).rtype = s.rtype := rfl
@[simp] theorem State.rxOn_mseq : (s.rxOn).mseq = s.mseq := rfl
@[simp] theorem State.rxOn_sdseq : (s.rxOn).sdseq = s.sdseq := rfl
@[simp] theorem State.rxOn_bitIdx : (s.rxOn).bitIdx = s.bitIdx := rfl
@[simp] theorem State.rxOn_smpIdx : (s.rxOn).smpIdx = s.smpIdx := rfl
@[simp] theorem State.rxOn_byteIdx : (s.rxOn).byteIdx = s.byteIdx := rfl
@[simp] theorem State.rxOn_dstate : (s.rxOn).dstate = s.dstate := rfl
@[simp] theorem State.rxOn_crcOk : (s.rxOn).crcOk = s.crcOk := rfl
@[simp] theorem State.rxOn_chkOk : (s.rxOn).chkOk = s.chkOk := rfl
@[simp] theorem State.rxOn_indicator : (s.rxOn).indicator = s.indicator := rfl
@[simp] theorem State.rxOn_slaveAddr : (s.rxOn).slaveAddr = s.slaveAddr := rfl
@[simp] theorem State.rxOn_notifyEn : (s.rxOn).notifyEn = s.notifyEn := rfl
@[simp] theorem State.rxOn_rxEn : (s.rxOn).rxEn = true := rfl
@[simp] theorem State.rxOn_pinMode : (s.rxOn).pinMode = s.pinMode := rfl
@[simp] theorem State.rxOn_pinOut : (s.rxOn).pinOut = s.pinOut := rfl
@[simp] theorem State.rxOn_rxq : (s.rxOn).rxq = s.rxq := rfl
@[simp] theorem State.rxOn_txlog : (s.rxOn).txlog = s.txlog := rfl
@[simp] theorem State.rxOn_pinq : (s.rxOn).pinq = s.pinq := rfl
@[simp] theorem State.rxOn_cfg : (s.rxOn).cfg = s.cfg := rfl
@[simp] theorem State.rxOn_sub : (s.rxOn).sub = s.sub := rfl
@[simp] theorem State.rxOn_trace : (s.rxOn).trace = s.trace := rfl
@[simp] theorem State.rxOn_sched : (s.rxOn).sched = s.sched := rfl
@[simp] theorem State.rxOn_tick : (s.rxOn).tick = s.tick := rfl
end rxOn

section nextSub
variable (s : State)
@[simp] theorem State.nextSub_crc : (s.nextSub).crc = s.crc := rfl
@[simp] theorem State.nextSub_req : (s.nextSub).req = s.req := rfl
@[simp] theorem State.nextSub_rsp : (s.nextSub).rsp = s.rsp := rfl
@[simp] theorem State.nextSub_sbit : (s.nextSub).sbit = s.sbit := rfl
@[simp] theorem State.nextSub_hum : (s.nextSub).hum = s.hum := rfl
@[simp] theorem State.nextSub_tmp : (s.nextSub).tmp = s.tmp := rfl
@[simp] theorem State.nextSub_chk : (s.nextSub).chk = s.chk := rfl
@[simp] theorem State.nextSub_sample : (s.nextSub).sample = s.sample := rfl
@[simp] theorem State.nextSub_value : (s.nextSub).value = s.value := rfl
@[simp] theorem State.nextSub_rtype : (s.nextSub).rtype = s.rtype := rfl
@[simp] theorem State.nextSub_mseq : (s.nextSub).mseq = s.mseq := rfl
@[simp] theorem State.nextSub_sdseq : (s.nextSub).sdseq = s.sdseq := rfl
@[simp] theorem State.nextSub_bitIdx : (s.nextSub).bitIdx = s.bitIdx := rfl
@[simp] theorem State.nextSub_smpIdx : (s.nextSub).smpIdx = s.smpIdx := rfl
@[simp] theorem State.nextSub_byteIdx : (s.nextSub).byteIdx = s.byteIdx := rfl
@[simp] theorem State.nextSub_dstate : (s.nextSub).dstate = s.dstate := rfl
@[simp] theorem State.nextSub_crcOk : (s.nextSub).crcOk = s.crcOk := rfl
@[simp] theorem State.nextSub_chkOk : (s.nextSub).chkOk = s.chkOk := rfl
@[simp] theorem State.nextSub_indicator : (s.nextSub).indicator = s.indicator := rfl
@[simp] theorem State.nextSub_slaveAddr : (s.nextSub).slaveAddr = s.slaveAddr := rfl
@[simp] theorem State.nextSub_notifyEn : (s.nextSub).notifyEn = s.notifyEn := rfl
@[simp] theorem State.nextSub_rxEn : (s.nextSub).rxEn = s.rxEn := rfl
@[simp] theorem State.nextSub_pinMode : (s.nextSub).pinMode = s.pinMode := rfl
@[simp] theorem State.nextSub_pinOut : (s.nextSub).pinOut = s.pinOut := rfl
@[simp] theorem State.nextSub_rxq : (s.nextSub).rxq = s.rxq := rfl
@[simp] theorem State.nextSub_txlog : (s.nextSub).txlog = s.txlog := rfl
@[simp] theorem State.nextSub_pinq : (s.nextSub).pinq = s.pinq := rfl
@[simp] theorem State.nextSub_cfg : (s.nextSub).cfg = s.cfg := rfl
@[simp] theorem State.nextSub_sub : (s.nextSub).sub = s.sub + 1 := rfl
@[simp] theorem State.nextSub_trace : (s.nextSub).trace = s.trace := rfl
@[simp] theorem State.nextSub_sched : (s.nextSub).sched = s.sched := rfl
@[simp] theorem State.nextSub_tick : (s.nextSub).tick = s.tick := rfl
end nextSub

section setAcq
variable (s : State) (a : Acq)
@[simp] theorem State.setAcq_crc : (s.setAcq a).crc = s.crc := rfl
@[simp] theorem State.setAcq_req : (s.setAcq a).req = s.req := rfl
@[simp] theorem State.setAcq_rsp : (s.setAcq a).rsp = s.rsp := rfl
@[simp] theorem State.setAcq_sbit : (s.setAcq a).sbit = a.bits := rfl
@[simp] theorem State.setAcq_hum : (s.setAcq a).hum = s.hum := rfl
@[simp] theorem State.setAcq_tmp : (s.setAcq a).tmp = s.tmp := rfl
@[simp] theorem State.setAcq_chk : (s.setAcq a).chk = s.chk := rfl
@[simp] theorem State.setAcq_sample : (s.setAcq a).sample = s.sample := rfl
@[simp] theorem State.setAcq_value : (s.setAcq a).value = s.value := rfl
@[simp] theorem State.setAcq_rtype : (s.setAcq a).rtype = s.rtype := rfl
@[simp] theorem State.setAcq_mseq : (s.setAcq a).mseq = s.mseq := rfl
@[simp] theorem State.setAcq_sdseq : (s.setAcq a).sdseq = a.seq := rfl
@[simp] theorem State.setAcq_bitIdx : (s.setAcq a).bitIdx = a.idx := rfl
@[simp] theorem State.setAcq_smpIdx : (s.setAcq a).smpIdx = s.smpIdx := rfl
@[simp] theorem State.setAcq_byteIdx : (s.setAcq a).byteIdx = s.byteIdx := rfl
@[simp] theorem State.setAcq_dstate : (s.setAcq a).dstate = s.dstate := rfl
@[simp] theorem State.setAcq_crcOk : (s.setAcq a).crcOk = s.crcOk := rfl
@[simp] theorem State.setAcq_chkOk : (s.setAcq a).chkOk = s.chkOk := rfl
@[simp] theorem State.setAcq_indicator : (s.setAcq a).indicator = s.indicator := rfl
@[simp] theorem State.setAcq_slaveAddr : (s.setAcq a).slaveAddr = s.slaveAddr := rfl
@[simp] theorem State.setAcq_notifyEn : (s.setAcq a).notifyEn = s.notifyEn := rfl
@[simp] theorem State.setAcq_rxEn : (s.setAcq a).rxEn = s.rxEn := rfl
@[simp] theorem State.setAcq_pinMode : (s.setAcq a).pinMode = s.pinMode := rfl
@[simp] theorem State.setAcq_pinOut : (s.setAcq a).pinOut = s.pinOut := rfl
@[simp] theorem State.setAcq_rxq : (s.setAcq a).rxq = s.rxq := rfl
@[simp] theorem State.setAcq_txlog : (s.setAcq a).txlog = s.txlog := rfl
@[simp] theorem State.setAcq_pinq : (s.setAcq a).pinq = s.pinq := rfl
@[simp] theorem State.setAcq_cfg : (s.setAcq a).cfg = s.cfg := rfl
@[simp] theorem State.setAcq_sub : (s.setAcq a).sub = s.sub := rfl
@[simp] theorem State.setAcq_trace : (s.setAcq a).trace = a.trace := rfl
@[simp] theorem State.setAcq_sched : (s.setAcq a).sched = s.sched := rfl
@[simp] theorem State.setAcq_tick : (s.setAcq a).tick = s.tick := rfl
end setAcq

section computeCrc
variable (s : State) (l : List Byte) (n : Nat)
@[simp] theorem State.computeCrc_crc : (s.computeCrc l n).crc = crc16 l n := rfl
@[simp] theorem State.computeCrc_req : (s.computeCrc l n).req = s.req := rfl
@[simp] theorem State.computeCrc_rsp : (s.computeCrc l n).rsp = s.rsp := rfl
@[simp] theorem State.computeCrc_sbit : (s.computeCrc l n).sbit = s.sbit := rfl
@[simp] theorem State.computeCrc_hum : (s.computeCrc l n).hum = s.hum := rfl
@[simp] theorem State.computeCrc_tmp : (s.computeCrc l n).tmp = s.tmp := rfl
@[simp] theorem State.computeCrc_chk : (s.computeCrc l n).chk = s.chk := rfl
@[simp] theorem State.computeCrc_sample : (s.computeCrc l n).sample = s.sample := rfl
@[simp] theorem State.computeCrc_value : (s.computeCrc l n).value = s.value := rfl
@[simp] theorem State.computeCrc_rtype : (s.computeCrc l n).rtype = s.rtype := rfl
@[simp] theorem State.computeCrc_mseq : (s.computeCrc l n).mseq = s.mseq := rfl
@[simp] theorem State.computeCrc_sdseq : (s.computeCrc l n).sdseq = s.sdseq := rfl
@[simp] theorem State.computeCrc_bitIdx : (s.computeCrc l n).bitIdx = s.bitIdx := rfl
@[simp] theorem State.computeCrc_smpIdx : (s.computeCrc l n).smpIdx = s.smpIdx := rfl
@[simp] theorem State.computeCrc_byteIdx : (s.computeCrc l n).byteIdx = n := rfl
@[simp] theorem State.computeCrc_dstate : (s.computeCrc l n).dstate = s.dstate := rfl
@[simp] theorem State.computeCrc_crcOk : (s.computeCrc l n).crcOk = s.crcOk := rfl
@[simp] theorem State.computeCrc_chkOk : (s.computeCrc l n).chkOk = s.chkOk := rfl
@[simp] theorem State.computeCrc_indicator : (s.computeCrc l n).indicator = s.indicator := rfl
@[simp] theorem State.computeCrc_slaveAddr : (s.computeCrc l n).slaveAddr = s.slaveAddr := rfl
@[simp] theorem State.computeCrc_notifyEn : (s.computeCrc l n).notifyEn = s.notifyEn := rfl
@[simp] theorem State.computeCrc_rxEn : (s.computeCrc l n).rxEn = s.rxEn := rfl
@[simp] theorem State.computeCrc_pinMode : (s.computeCrc l n).pinMode = s.pinMode := rfl
@[simp] theorem State.computeCrc_pinOut : (s.computeCrc l n).pinOut = s.pinOut := rfl
@[simp] theorem State.computeCrc_rxq : (s.computeCrc l n).rxq = s.rxq := rfl
@[simp] theorem State.computeCrc_txlog : (s.computeCrc l n).txlog = s.txlog := rfl
@[simp] theorem State.computeCrc_pinq : (s.computeCrc l n).pinq = s.pinq := rfl
@[simp] theorem State.computeCrc_cfg : (s.computeCrc l n).cfg = s.cfg := rfl
@[simp] theorem State.computeCrc_sub : (s.computeCrc l n).sub = s.sub := rfl
@[simp] theorem State.computeCrc_trace : (s.computeCrc l n).trace = s.trace := rfl
@[simp] theorem State.computeCrc_sched : (s.computeCrc l n).sched = s.sched := rfl
@[simp] theorem State.computeCrc_tick : (s.computeCrc l n).tick = s.tick := rfl
end computeCrc

end Sys2Proof.Machine
end

