-- ==== Sys2Proof/Laws/Dispatcher.lean ====
section
/-! SUPPORT. The Dispatcher: its two byte loops (R112, R118), and MAIN's operation as an instruction (R84). -/

namespace Sys2Proof.Machine

/-- MAIN's turn is the instruction its sequencer selects (R84). -/
theorem exec_selected (s : State) : exec (selected s) s = mainOp s := by
  unfold selected mainOp
  cases s.mseq <;> rfl

/-! ### The reading loop -/

/-- The passes write only `REQ`, `BYTEIDX` and the queue (R112). -/
theorem State.readBytes_frame (n : Nat) (s : State) :
    ∃ r q k, s.readBytes n = { s with req := r, rxq := q, byteIdx := k } := by
  induction n generalizing s with
  | zero => exact ⟨s.req, s.rxq, s.byteIdx, rfl⟩
  | succ n ih =>
    unfold State.readBytes
    split
    · exact ⟨s.req, s.rxq, s.byteIdx, rfl⟩
    · rename_i b t h
      obtain ⟨q, -, rfl⟩ := (s.rxRead_eq_some t b).mp h
      obtain ⟨r, q', k, h'⟩ := ih
        { ({ s with rxq := q } : State) with
          req := ({ s with rxq := q } : State).req.setIfInBounds ({ s with rxq := q } : State).byteIdx b
          byteIdx := ({ s with rxq := q } : State).byteIdx + 1 }
      exact ⟨r, q', k, h'⟩

/-- On an empty queue MAIN stays where it is (R42, R53). -/
theorem State.readBytes_nil (n : Nat) (s : State) (h : s.rxq = []) : s.readBytes n = s := by
  cases n with
  | zero => rfl
  | succ n => simp [State.readBytes, State.rxRead, h]

theorem State.readBytes_cons (n : Nat) (s : State) (b : Byte) (q : List Byte) (h : s.rxq = b :: q) :
    s.readBytes (n + 1) =
      State.readBytes n { s with rxq := q, req := s.req.setIfInBounds s.byteIdx b, byteIdx := s.byteIdx + 1 } := by
  simp [State.readBytes, State.rxRead, h]

/-- Passes that find all their bytes consume exactly those and count them. -/
theorem State.readBytes_counts (n : Nat) (s : State) (h : n ≤ s.rxq.length) :
    (s.readBytes n).rxq = s.rxq.drop n ∧ (s.readBytes n).byteIdx = s.byteIdx + n := by
  induction n generalizing s with
  | zero => exact ⟨rfl, rfl⟩
  | succ n ih =>
    obtain ⟨b, q, hq⟩ : ∃ b q, s.rxq = b :: q := by
      cases hq : s.rxq with
      | nil => rw [hq] at h; simp at h
      | cons b q => exact ⟨b, q, rfl⟩
    rw [s.readBytes_cons n b q hq]
    have := ih { s with rxq := q, req := s.req.setIfInBounds s.byteIdx b, byteIdx := s.byteIdx + 1 }
      (by simp [hq] at h; exact h)
    refine ⟨?_, ?_⟩
    · rw [this.1, hq]; rfl
    · rw [this.2]; simp only; omega

/-! ### The sending loop -/

/-- The passes append to the transmit log and count (R118). -/
theorem State.sendBytes_eq (n : Nat) (s : State) :
    s.sendBytes n =
      { s with
        txlog := s.txlog ++ (List.range' s.byteIdx n).map fun i => s.rsp[i]?.getD 0
        byteIdx := s.byteIdx + n } := by
  induction n generalizing s with
  | zero => simp [State.sendBytes]
  | succ n ih =>
    rw [State.sendBytes, ih]
    simp [State.sendByte, State.txWrite, List.range'_succ]
    omega

/-! ### Branches -/

/-- A discarded frame goes to the re-arming, through the pace exactly when the parameter says so (R114, R115). -/
theorem State.discard_eq (s : State) :
    s.discard = { s with mseq := if s.cfg.paceOnDiscard then .pace else .rearm, sub := 0 } := rfl

theorem State.poll_eq (s : State) : s.poll = { s with dstate := .idle, mseq := pollTarget s.dstate, sub := 0 } := rfl

/-- The validation writes `CRC`, `BYTEIDX` and `CRC_OK`, and no byte of the frame (R100). -/
theorem State.validate_eq (s : State) :
    s.validate =
      { s with
        crc := crc16 s.req.toList 6
        byteIdx := 6
        crcOk := crcOkOf s.req (crc16 s.req.toList 6) } := rfl

theorem State.encodeResponse_eq (s : State) (a : Byte) (v : Word) :
    s.encodeResponse a v =
      { s with crc := crc16 (responseBody a v) 5, byteIdx := 5, rsp := responseFrame a v } := rfl

end Sys2Proof.Machine
end

