-- ==== Sys2Proof/Laws/Frames.lean ====
section
/-! SUPPORT. The encoded rows: when a core takes a frame and when the frame waits; when MAIN's operation answers. -/

namespace Sys2Proof.Machine

theorem State.ready_iff (s : State) :
    s.ready = true ↔ s.mseq = .poll ∧ s.dstate = .idle ∧ s.notifyEn = true ∧ s.rxEn = true := by
  simp [State.ready, and_assoc]

/-- A ready core takes the frame: the handler, then MAIN (R60). -/
theorem takeFrame_ready (bytes : List Byte) (s : State) (h : s.ready = true) :
    takeFrame bytes s = cycle cycleLength ({ s with rxq := bytes ++ s.rxq } : State).takeNotification := by
  simp [takeFrame, h]

/-- A core that is not ready leaves the bytes where the master put them (R66). -/
theorem takeFrame_waits (bytes : List Byte) (s : State) (h : s.ready = false) :
    takeFrame bytes s = .next (s.masterSendAll bytes) := by
  simp [takeFrame, h]

/-- One operation of the cycle that moved MAIN on, not back to the poll. -/
theorem cycle_succ (n : Nat) (s t : State) (h : mainOp s = .next t) (hp : t.mseq ≠ .poll) (hm : t.mseq ≠ s.mseq) :
    cycle (n + 1) s = cycle n t := by
  simp [cycle, h, hp, hm]

/-- The operation after which the cycle is over, or waits. -/
theorem cycle_stop (n : Nat) (s t : State) (h : mainOp s = .next t) (hp : t.mseq = .poll ∨ t.mseq = s.mseq) :
    cycle (n + 1) s = .next t := by
  simp [cycle, h, hp]

/-- The only operation of MAIN without a meaning is a sampling of the type `Unknown` (R156). -/
theorem mainOp_answers (s : State) (h : s.mseq = .sample → s.rtype ≠ .unknown) : ∃ t, mainOp s = .next t := by
  unfold mainOp
  cases hm : s.mseq with
  | sample =>
    refine ⟨s.sampleStep, ?_⟩
    simp [execMainSampleStep, h hm]
  | poll => exact ⟨_, rfl⟩
  | read => exact ⟨_, rfl⟩
  | indOn => exact ⟨_, rfl⟩
  | validate => exact ⟨_, rfl⟩
  | decode => exact ⟨_, rfl⟩
  | encode => exact ⟨_, rfl⟩
  | send => exact ⟨_, rfl⟩
  | pace => exact ⟨_, rfl⟩
  | rearm => exact ⟨_, rfl⟩
  | mismatch => exact ⟨_, rfl⟩

end Sys2Proof.Machine
end

