-- ==== Sys2Proof/Laws/PerInstr.lean ====
section
/-! SUPPORT. Statements about every instruction as syntax, one lemma per constructor: how long its encoding is. -/

namespace Sys2Proof.Laws.EncodedLength

open Sys2Proof Sys2Proof.Machine

/-- The width in bytes of an encoded row (spec/30_encoding.md rules R70, R77): eight for a request, one where only the address
byte is read, seven for a response, five for a stream. An internal operation has no encoding. -/
def width : Instr → Nat
  | .reqTemp _ _ _ _ _ => 8
  | .reqHum _ _ _ _ _ => 8
  | .reqUnk _ _ _ _ _ _ => 8
  | .reqBadCrc _ _ _ _ _ _ _ _ => 8
  | .reqOther _ => 1
  | .rspValue _ _ => 7
  | .strData _ _ _ => 5
  | .crc16Compute _ _ => 0
  | .fcValidate => 0
  | .fcDecodeRequestType => 0
  | .fcEncodeResponse _ _ => 0
  | .dispNotify => 0
  | .mainPoll => 0
  | .mainReadFrame => 0
  | .mainIndicatorOn => 0
  | .mainValidateStep => 0
  | .mainDecodeStep => 0
  | .mainSampleStep => 0
  | .mainEncodeStep => 0
  | .mainSend => 0
  | .mainPaceRearm => 0
  | .mainMismatch => 0
  | .sdAcquire => 0
  | .seSampleMedian _ => 0

/-- The encoding has the row's width, and only the encoded rows have one. -/
def Statement (i : Instr) : Prop :=
  (encode i).length = width i ∧ ((formatOf i).isSome = true ↔ encode i ≠ [])

theorem reqTemp (a b c d e : Byte) : Statement (.reqTemp a b c d e) := by
  simp [Statement, width, encode, formatOf, withTrailer, crcTrailer]

theorem reqHum (a b c d e : Byte) : Statement (.reqHum a b c d e) := by
  simp [Statement, width, encode, formatOf, withTrailer, crcTrailer]

theorem reqUnk (a b c d e f : Byte) : Statement (.reqUnk a b c d e f) := by
  simp [Statement, width, encode, formatOf, withTrailer, crcTrailer]

theorem reqBadCrc (a b c d e f g h : Byte) : Statement (.reqBadCrc a b c d e f g h) := by
  simp [Statement, width, encode, formatOf]

theorem reqOther (a : Byte) : Statement (.reqOther a) := by
  simp [Statement, width, encode, formatOf]

theorem rspValue (a : Byte) (b : Word) : Statement (.rspValue a b) := by
  simp [Statement, width, encode, formatOf, withTrailer, crcTrailer, responseBody]

theorem strData (a b : Word) (c : Byte) : Statement (.strData a b c) := by
  simp [Statement, width, encode, formatOf, streamBytes]

theorem crc16Compute (a : List Byte) (b : Nat) : Statement (.crc16Compute a b) := by
  simp [Statement, width, encode, formatOf]

theorem fcValidate : Statement (.fcValidate) := by
  simp [Statement, width, encode, formatOf]

theorem fcDecodeRequestType : Statement (.fcDecodeRequestType) := by
  simp [Statement, width, encode, formatOf]

theorem fcEncodeResponse (a : Byte) (b : Word) : Statement (.fcEncodeResponse a b) := by
  simp [Statement, width, encode, formatOf]

theorem dispNotify : Statement (.dispNotify) := by
  simp [Statement, width, encode, formatOf]

theorem mainPoll : Statement (.mainPoll) := by
  simp [Statement, width, encode, formatOf]

theorem mainReadFrame : Statement (.mainReadFrame) := by
  simp [Statement, width, encode, formatOf]

theorem mainIndicatorOn : Statement (.mainIndicatorOn) := by
  simp [Statement, width, encode, formatOf]

theorem mainValidateStep : Statement (.mainValidateStep) := by
  simp [Statement, width, encode, formatOf]

theorem mainDecodeStep : Statement (.mainDecodeStep) := by
  simp [Statement, width, encode, formatOf]

theorem mainSampleStep : Statement (.mainSampleStep) := by
  simp [Statement, width, encode, formatOf]

theorem mainEncodeStep : Statement (.mainEncodeStep) := by
  simp [Statement, width, encode, formatOf]

theorem mainSend : Statement (.mainSend) := by
  simp [Statement, width, encode, formatOf]

theorem mainPaceRearm : Statement (.mainPaceRearm) := by
  simp [Statement, width, encode, formatOf]

theorem mainMismatch : Statement (.mainMismatch) := by
  simp [Statement, width, encode, formatOf]

theorem sdAcquire : Statement (.sdAcquire) := by
  simp [Statement, width, encode, formatOf]

theorem seSampleMedian (a : ReqType) : Statement (.seSampleMedian a) := by
  simp [Statement, width, encode, formatOf]

end Sys2Proof.Laws.EncodedLength
end

