-- ==== Sys2Proof/Laws/SensorDriver.lean ====
section
/-! SUPPORT. The Sensor Driver: what a run of answered reads does in each phase (R132, R133), and what the reads of an
acquisition leave unchanged. -/

namespace Sys2Proof.Machine

/-! ### Reads answered from a list -/

theorem Acq.run_cons (lw : Bool) (a : Acq) (l : Bool) (ls : List Bool) (h : a.seq.reads = true) :
    Acq.run lw a (l :: ls) = Acq.run lw (a.feed lw l) ls := by simp [Acq.run, h]

theorem Acq.run_done (lw : Bool) (a : Acq) (ls : List Bool) (h : a.seq.reads = false) : Acq.run lw a ls = (a, ls) := by
  cases ls <;> simp [Acq.run, h]

/-- A poll goes through any number of reads of the level it waits out (R138). -/
theorem Acq.run_replicate (lw l : Bool) (a : Acq) (hr : a.seq.reads = true) (hf : a.feed lw l = a) (n : Nat)
    (rest : List Bool) : Acq.run lw a (List.replicate n l ++ rest) = Acq.run lw a rest := by
  induction n with
  | zero => rfl
  | succ n ih => rw [List.replicate_succ, List.cons_append, Acq.run_cons lw a l _ hr, hf, ih]

/-- PreparationResponse (R132), whatever its polls take. -/
theorem Acq.run_prep (lw : Bool) (w : Timing) (a : Acq) (h : a.seq = .prep .p1) (rest : List Bool) :
    Acq.run lw a (prepReads lw w ++ rest) = Acq.run lw { a with seq := .data .a, idx := 0 } rest := by
  obtain ⟨sq, i, b, tr⟩ := a
  subst h
  cases lw
  · simp only [prepReads, List.append_assoc, Bool.false_eq_true, if_false, List.nil_append, List.cons_append]
    rw [Acq.run_replicate _ _ _ rfl rfl, Acq.run_cons _ _ _ _ rfl]
    simp only [Acq.feed, Bool.false_eq_true, if_false]
    rw [Acq.run_replicate _ _ _ rfl rfl, Acq.run_cons _ _ _ _ rfl]
    rfl
  · simp only [prepReads, List.append_assoc, if_true, List.nil_append, List.cons_append]
    rw [Acq.run_replicate _ _ _ rfl rfl, Acq.run_cons _ _ _ _ rfl]
    simp only [Acq.feed, Bool.false_eq_true, if_false, if_true]
    rw [Acq.run_replicate _ _ _ rfl rfl, Acq.run_cons _ _ _ _ rfl]
    simp only [Acq.feed, if_true]
    rw [Acq.run_replicate _ _ _ rfl rfl, Acq.run_cons _ _ _ _ rfl]
    rfl

/-- One bit of DataAcquisition (R133). -/
theorem Acq.run_bit (lw : Bool) (w : Nat × Nat) (b : Bool) (a : Acq) (h : a.seq = .data .a) (rest : List Bool) :
    Acq.run lw a (bitReads w b ++ rest) =
      Acq.run lw
        { seq := if a.idx + 1 < 40 then .data .a else .data .asm
          idx := if a.idx + 1 < 40 then a.idx + 1 else 40
          bits := setStreamBit a.bits a.idx b
          trace := a.trace ++ [.delay .sample] } rest := by
  obtain ⟨sq, i, bs, tr⟩ := a
  subst h
  simp only [bitReads, List.append_assoc, List.cons_append, List.nil_append]
  rw [Acq.run_replicate _ _ _ rfl rfl, Acq.run_cons _ _ _ _ rfl]
  simp only [Acq.feed, if_true]
  rw [Acq.run_cons _ _ _ _ rfl]
  simp only [Acq.feed]
  rw [Acq.run_replicate _ _ _ rfl rfl, Acq.run_cons _ _ _ _ rfl]
  simp only [Acq.feed, Bool.false_eq_true, if_false]
  split <;> rfl

/-- The last `n + 1` bits of a stream. -/
theorem Acq.run_bits (lw : Bool) (w : Timing) (str : SensorBits) (rest : List Bool) (n : Nat) (a : Acq)
    (h : a.seq = .data .a) (hi : a.idx + (n + 1) = 40) :
    Acq.run lw a (bitsReads w str a.idx (n + 1) ++ rest) =
      Acq.run lw
        { seq := .data .asm
          idx := 40
          bits := fillBits a.bits str a.idx (n + 1)
          trace := a.trace ++ List.replicate (n + 1) (.delay .sample) } rest := by
  induction n generalizing a with
  | zero =>
    have : a.idx = 39 := by omega
    simp only [bitsReads, List.range'_succ, List.range'_zero, List.flatMap_cons, List.flatMap_nil, List.append_nil]
    rw [Acq.run_bit _ _ _ _ h]
    simp [this, fillBits]
  | succ n ih =>
    have h1 : a.idx + 1 < 40 := by omega
    rw [bitsReads, List.range'_succ, List.flatMap_cons, List.append_assoc, Acq.run_bit _ _ _ _ h]
    simp only [h1, if_true]
    have := ih
      { seq := .data .a
        idx := a.idx + 1
        bits := setStreamBit a.bits a.idx (streamBit str a.idx)
        trace := a.trace ++ [.delay .sample] } rfl (by simp; omega)
    simp only [bitsReads] at this
    rw [this]
    simp [fillBits, List.replicate_succ]

/-- Both phases: the driver ends with the whole stream in `SBIT`. -/
theorem Acq.run_acquisition (lw : Bool) (w : Timing) (str : SensorBits) (a : Acq) (h : a.seq = .prep .p1)
    (rest : List Bool) :
    Acq.run lw a (acquisitionReads lw w str ++ rest) =
      ({ seq := .data .asm, idx := 40, bits := str, trace := a.trace ++ List.replicate 40 (.delay .sample) }, rest) := by
  rw [acquisitionReads, List.append_assoc, Acq.run_prep lw w a h]
  have := Acq.run_bits lw w str rest 39 { a with seq := .data .a, idx := 0 } rfl rfl
  simp only at this
  rw [this, fillBits_all, Acq.run_done _ _ _ rfl]

theorem acquisitionReads_ne_nil (lw : Bool) (w : Timing) (str : SensorBits) : acquisitionReads lw w str ≠ [] := by
  simp [acquisitionReads, prepReads]

/-! ### Frames -/

/-- A read changes only where the driver stands, `BITIDX`, `SBIT`, the record and what the environment has answered. -/
theorem State.pollOnce_frame (s : State) :
    ∃ q i b tr pq k,
      s.pollOnce = { s with sdseq := q, bitIdx := i, sbit := b, trace := tr, pinq := pq, tick := k } := by
  obtain ⟨pq, k, h⟩ := s.pinRead_frame
  rw [State.pollOnce, h]
  generalize s.acq.feed s.cfg.prepLowWait s.pinRead.1 = a
  exact ⟨a.seq, a.idx, a.bits, a.trace, pq, k, rfl⟩

theorem State.polls_frame (s : State) :
    ∃ q i b tr pq k,
      s.polls = { s with sdseq := q, bitIdx := i, sbit := b, trace := tr, pinq := pq, tick := k } := by
  unfold State.polls
  split
  · split
    · exact ⟨_, _, _, _, _, s.tick, rfl⟩
    · exact s.pollOnce_frame
  · exact ⟨s.sdseq, s.bitIdx, s.sbit, s.trace, s.pinq, s.tick, rfl⟩

/-! The four lines of StartPulse (R131). -/

theorem State.startStmt_wake (s : State) :
    s.startStmt .wake =
      { s with
        sdseq := .start .low, pinMode := .output, pinOut := true
        trace := s.trace ++ [.pinMode .output, .pinDrive true, .delay .wake] } := by
  simp [State.startStmt, State.setPinMode, State.drivePin, State.delay, State.log, State.sdGoto]

theorem State.startStmt_low (s : State) :
    s.startStmt .low =
      { s with sdseq := .start .release, pinOut := false, trace := s.trace ++ [.pinDrive false, .delay .start] } := by
  simp [State.startStmt, State.drivePin, State.delay, State.log, State.sdGoto]

theorem State.startStmt_release (s : State) :
    s.startStmt .release =
      { s with sdseq := .start .input, pinOut := true, trace := s.trace ++ [.pinDrive true, .delay .release] } := by
  simp [State.startStmt, State.drivePin, State.delay, State.log, State.sdGoto]

theorem State.startStmt_input (s : State) :
    s.startStmt .input =
      { s with sdseq := .prep .p1, pinMode := .input, trace := s.trace ++ [.pinMode .input] } := rfl

/-- StartPulse changes only the pin, where the driver stands, and the record (R131). -/
theorem State.startPulse_frame (s : State) :
    ∃ q m o tr, s.startPulse = { s with sdseq := q, pinMode := m, pinOut := o, trace := tr } := by
  unfold State.startPulse
  simp only [State.startStmt_wake, State.startStmt_low, State.startStmt_release, State.startStmt_input]
  cases s.sdseq with
  | idle => exact ⟨_, _, _, _, rfl⟩
  | start k => cases k <;> exact ⟨_, _, _, _, rfl⟩
  | prep p => exact ⟨s.sdseq, s.pinMode, s.pinOut, s.trace, rfl⟩
  | data b => exact ⟨s.sdseq, s.pinMode, s.pinOut, s.trace, rfl⟩
  | done => exact ⟨s.sdseq, s.pinMode, s.pinOut, s.trace, rfl⟩
  | fail => exact ⟨s.sdseq, s.pinMode, s.pinOut, s.trace, rfl⟩

/-- From `SD_IDLE` all four lines of StartPulse run (R131). -/
theorem State.startPulse_idle (s : State) (h : s.sdseq = .idle) :
    s.startPulse =
      { s with sdseq := .prep .p1, pinMode := .input, pinOut := true, trace := s.trace ++ startWaveform } := by
  simp [State.startPulse, h, State.startStmt, State.setPinMode, State.drivePin, State.delay, State.log, State.sdGoto,
    startWaveform]

/-- The end of an acquisition changes only `HUM`, `TMP`, `CHK`, `CHK_OK`, where the driver stands, and the record. -/
theorem State.acquireReturn_frame (s : State) :
    ∃ q h t c ok tr,
      s.acquireReturn = { s with sdseq := q, hum := h, tmp := t, chk := c, chkOk := ok, trace := tr } := by
  have hf : ∃ q h t c ok tr,
      s.finishStream = { s with sdseq := q, hum := h, tmp := t, chk := c, chkOk := ok, trace := tr } := by
    unfold State.finishStream State.softFail State.testChecksum State.assemble State.raise State.log State.sdGoto
    split <;> exact ⟨_, _, _, _, _, _, rfl⟩
  unfold State.acquireReturn
  cases s.sdseq with
  | data b =>
    cases b with
    | asm =>
      obtain ⟨q, h, t, c, ok, tr, he⟩ := hf
      simp only [he]
      exact ⟨_, _, _, _, _, _, rfl⟩
    | a => exact ⟨s.sdseq, s.hum, s.tmp, s.chk, s.chkOk, s.trace, rfl⟩
    | c => exact ⟨s.sdseq, s.hum, s.tmp, s.chk, s.chkOk, s.trace, rfl⟩
    | d => exact ⟨s.sdseq, s.hum, s.tmp, s.chk, s.chkOk, s.trace, rfl⟩
  | done => exact ⟨.idle, s.hum, s.tmp, s.chk, s.chkOk, s.trace, rfl⟩
  | fail => exact ⟨.idle, s.hum, s.tmp, s.chk, s.chkOk, s.trace, rfl⟩
  | idle => exact ⟨s.sdseq, s.hum, s.tmp, s.chk, s.chkOk, s.trace, rfl⟩
  | start k => exact ⟨s.sdseq, s.hum, s.tmp, s.chk, s.chkOk, s.trace, rfl⟩
  | prep p => exact ⟨s.sdseq, s.hum, s.tmp, s.chk, s.chkOk, s.trace, rfl⟩

/-- An acquisition writes only what R130 lists, the record, and what the environment has answered. -/
theorem State.acquire_frame (s : State) :
    ∃ q i b h t c ok m o tr pq k,
      s.acquire =
        { s with
          sdseq := q, bitIdx := i, sbit := b, hum := h, tmp := t, chk := c, chkOk := ok
          pinMode := m, pinOut := o, trace := tr, pinq := pq, tick := k } := by
  unfold State.acquire
  obtain ⟨q1, m, o, t1, h1⟩ := s.startPulse_frame
  rw [h1]
  obtain ⟨q2, i, b, t2, pq, k, h2⟩ := State.polls_frame { s with sdseq := q1, pinMode := m, pinOut := o, trace := t1 }
  rw [h2]
  obtain ⟨q3, h, t, c, ok, t3, h3⟩ := State.acquireReturn_frame
    { s with
      sdseq := q2, bitIdx := i, sbit := b, pinMode := m, pinOut := o, trace := t2, pinq := pq, tick := k }
  rw [h3]
  exact ⟨q3, i, b, h, t, c, ok, m, o, t3, pq, k, rfl⟩

/-- The end of an acquisition that has its stream, in the terms of R139. -/
theorem State.acquireReturn_asm (s : State) (h : s.sdseq = .data .asm) :
    s.acquireReturn =
      { s with
        sdseq := .idle
        hum := (readingsOf s.cfg.sensorChk s.sbit).1
        tmp := (readingsOf s.cfg.sensorChk s.sbit).2
        chk := streamChk s.sbit
        chkOk := streamOk s.cfg.sensorChk s.sbit
        trace := s.trace ++
          (if streamOk s.cfg.sensorChk s.sbit then [] else [.event (.sensorChk (streamChk s.sbit))]) } := by
  unfold State.acquireReturn
  simp only [h]
  unfold State.finishStream State.softFail State.testChecksum State.assemble readingsOf
  by_cases hc : streamOk s.cfg.sensorChk s.sbit = true
  · have hc' := hc
    unfold streamOk at hc'
    simp [hc, hc', State.sdGoto]
  · have hc' := hc
    unfold streamOk at hc'
    simp [hc, hc', State.sdGoto, State.raise, State.log]

end Sys2Proof.Machine
end

