-- ==== Sys2Proof/Laws/SamplingEngine.lean ====
section
/-! SUPPORT. The Sampling Engine: one pass of its loop, and what a sampling leaves unchanged. -/

namespace Sys2Proof.Machine

/-- The end of a pass writes only the Sample List, its counter and the record (R150). -/
theorem State.keepReading_frame (s : State) (t : ReqType) :
    ∃ v tr, s.keepReading t = { s with sample := v, smpIdx := s.smpIdx + 1, trace := tr } := by
  refine ⟨(s.keepReading t).sample, (s.keepReading t).trace, ?_⟩
  unfold State.keepReading
  dsimp only
  split <;> rfl

theorem State.keepReading_sample (s : State) (t : ReqType) :
    (s.keepReading t).sample = s.sample.setIfInBounds s.smpIdx (s.reading t) := by
  unfold State.keepReading
  dsimp only
  split <;> rfl

theorem State.passes_zero (t : ReqType) (s : State) : s.passes 0 t = s := rfl

/-- A pass whose acquisition returned is followed by the others. -/
theorem State.passes_succ_idle (n : Nat) (t : ReqType) (s : State) (h : s.acquire.sdseq = .idle) :
    s.passes (n + 1) t = (s.acquire.keepReading t).passes n t := by
  simp [State.passes, h]

/-- A pass whose acquisition has not returned leaves the engine there (R138). -/
theorem State.passes_succ_waits (n : Nat) (t : ReqType) (s : State) (h : s.acquire.sdseq ≠ .idle) :
    s.passes (n + 1) t = s.acquire := by
  simp [State.passes, h]

/-- Passes write only what R130 and R150 list, the record, and what the environment has answered. -/
theorem State.passes_frame (n : Nat) (t : ReqType) (s : State) :
    ∃ q i b h tm c ok m o tr pq k v j,
      s.passes n t =
        { s with
          sdseq := q, bitIdx := i, sbit := b, hum := h, tmp := tm, chk := c, chkOk := ok
          pinMode := m, pinOut := o, trace := tr, pinq := pq, tick := k, sample := v, smpIdx := j } := by
  induction n generalizing s with
  | zero =>
    exact ⟨s.sdseq, s.bitIdx, s.sbit, s.hum, s.tmp, s.chk, s.chkOk, s.pinMode, s.pinOut, s.trace, s.pinq, s.tick,
      s.sample, s.smpIdx, rfl⟩
  | succ n ih =>
    obtain ⟨q, i, b, h, tm, c, ok, m, o, tr, pq, k, ha⟩ := s.acquire_frame
    by_cases hi : s.acquire.sdseq = .idle
    · rw [s.passes_succ_idle n t hi]
      obtain ⟨v, tr', hk⟩ := s.acquire.keepReading_frame t
      obtain ⟨q2, i2, b2, h2, tm2, c2, ok2, m2, o2, tr2, pq2, k2, v2, j2, hp⟩ := ih (s.acquire.keepReading t)
      rw [hp, hk, ha]
      exact ⟨q2, i2, b2, h2, tm2, c2, ok2, m2, o2, tr2, pq2, k2, v2, j2, rfl⟩
    · rw [s.passes_succ_waits n t hi, ha]
      exact ⟨q, i, b, h, tm, c, ok, m, o, tr, pq, k, s.sample, s.smpIdx, rfl⟩

end Sys2Proof.Machine
end

