-- ==== Sys2Proof/Tests/Slice0.lean ====
section
/-! SUPPORT. The model's own tests. Expected values are the spec's: the vectors of spec/95_test_vectors.md (named in each comment)
and the worked examples of the rules. Then, for every obligation with hypotheses, a concrete state and operands that meet them. -/

namespace Sys2Proof.Tests

-- One theorem at a time: elaborated side by side, the threads of these theorems take more memory than the check allows.
set_option Elab.async false

open Sys2Proof Sys2Proof.Machine

/-! ### Helpers -/

/-- The next state, if there is one. -/
def after : Machine.Result → Option State
  | .next t => some t
  | .fault _ => none
  | .refused _ => none

/-- The block of the spec's vectors, after reset. -/
def block : State := State.resetWith 0x06 Config.default

/-- The block with a frame in `REQ` and MAIN somewhere. -/
def blockAt (m : MSeq) (frame : Vector Byte 8) : State := { block with mseq := m, req := frame, notifyEn := false }

/-- The frames of V-FC-1, V-FC-5, V-FC-4. -/
def frameTemp : Vector Byte 8 := #v[0x06, 0, 0, 0x01, 0, 0, 0x51, 0xBD]
def frameBad : Vector Byte 8 := #v[0x06, 0, 0, 0x01, 0, 0, 0x51, 0xBC]
def frameUnk : Vector Byte 8 := #v[0x06, 0, 0, 0x03, 0, 0, 0xF0, 0x7D]

/-- The answers of V-SD-10: two extra reads in `P1` and `P2`, one in `P3`, one extra in each `A`, one in `D` of a 1 bit. -/
def timing (str : SensorBits) : Timing :=
  { p1 := 2, p2 := 2, p3 := 1, bit := fun i => (1, if streamBit str i then 1 else 0) }

/-- A block about to sample, with the answers of nine acquisitions. -/
def sampling (t : ReqType) (str : Nat → SensorBits) : State :=
  { block with
    mseq := .sample
    rtype := t
    notifyEn := false
    pinq := samplingReads true (fun k => timing (str k)) str 0 9 }

/-- The streams of program P1. -/
def streamsP1 (k : Nat) : SensorBits :=
  [0x028C015FEE, 0x028C0160EF, 0x028C015EED, 0x028C015FEE, 0x028C0161F0, 0x028C015DEC, 0x028C015FEE, 0x028C0160EF,
    0x028C015EED][k]?.getD 0

/-- The streams of program P2: the fourth has a wrong checksum. -/
def streamsP2 (k : Nat) : SensorBits :=
  [0x0290015FF2, 0x028C015FEE, 0x028E015FF0, 0x028A015F00, 0x028D015FEF, 0x028C015FEE, 0x0291015FF3, 0x028B015FED,
    0x028F015FF1][k]?.getD 0

/-- Nine readings sorted, and their median. -/
def median (l : List Word) : List Word × Option Word := (sortDesc l, (sortDesc l)[4]?)

/-! ### WellFormed refuses an ill-formed term for each check -/

theorem test_wf_temp : (Instr.reqTemp 0x06 0 0 0 0).wellFormed 0x06 = true := by decide
theorem test_ill_temp_address : (Instr.reqTemp 0x07 0 0 0 0).wellFormed 0x06 = false := by decide
theorem test_ill_hum_address : (Instr.reqHum 0x07 0 0 0 0).wellFormed 0x06 = false := by decide
theorem test_ill_unk_address : (Instr.reqUnk 0x07 0 0 0x03 0 0).wellFormed 0x06 = false := by decide
theorem test_ill_unk_known_type : (Instr.reqUnk 0x06 0 0 0x02 0 0).wellFormed 0x06 = false := by decide
theorem test_ill_badCrc_address : (Instr.reqBadCrc 0x07 0 0 0x01 0 0 0x51 0xBC).wellFormed 0x06 = false := by
  decide +kernel
theorem test_ill_badCrc_good_crc : (Instr.reqBadCrc 0x06 0 0 0x01 0 0 0x51 0xBD).wellFormed 0x06 = false := by
  decide +kernel
theorem test_ill_other_own_address : (Instr.reqOther 0x06).wellFormed 0x06 = false := by decide
theorem test_ill_crc_length : (Instr.crc16Compute [0x06] 2).wellFormed 0x06 = false := by decide
theorem test_ill_sample_unknown : (Instr.seSampleMedian .unknown).wellFormed 0x06 = false := by decide

/-! ### Decoding: words written out from the formats R71 to R73, field by field, byte 0 leftmost -/

/-- V-FC-8: address 06, opaque 12 34, type 01, opaque 56 78, trailer D8 0C. -/
theorem test_decode_temp :
    decodeTableWord 64 0b0000011000010010001101000000000101010110011110001101100000001100 =
      some (.reqTemp 0x06 0x12 0x34 0x56 0x78) := by decide +kernel

/-- V-FC-2. -/
theorem test_decode_hum :
    decodeTableWord 64 0b0000011000000000000000000000001000000000000000001010000110111101 =
      some (.reqHum 0x06 0 0 0 0) := by decide +kernel

/-- V-FC-11: type FF. -/
theorem test_decode_unk :
    decodeTableWord 64 0b0000011000000000000000001111111100000000000000000011000001001101 =
      some (.reqUnk 0x06 0 0 0xFF 0 0) := by decide +kernel

/-- V-FC-7: the trailer sent high byte first. -/
theorem test_decode_badCrc :
    decodeTableWord 64 0b0000011000000000000000000000000100000000000000001011110101010001 =
      some (.reqBadCrc 0x06 0 0 0x01 0 0 0xBD 0x51) := by decide +kernel

/-- Any byte but the slave address, alone. -/
theorem test_decode_other : decodeTableWord 8 0b00000111 = some (.reqOther 0x07) := by decide +kernel

/-- V-ENC-7: address 00, 04, 02, value 12 34 high byte first, CRC 89 87 low byte first. -/
theorem test_decode_rsp :
    decodeTableWord 56 0b00000000000001000000001000010010001101001000100110000111 =
      some (.rspValue 0x00 0x1234) := by decide +kernel

/-- V-SD-7, stream bit 0 leftmost. -/
theorem test_decode_str :
    decodeTableWord 40 0b0000001111101000100000000110010111010000 =
      some (.strData 0x03E8 0x8065 0xD0) := by decide +kernel

/-- A response whose second byte is not 04 is refused by name. -/
theorem test_reject_rsp_constants :
    decode .rsp 0x06 [0x06, 0x03, 0x02, 0x01, 0x5F, 0x4D, 0x58] = .rejected .responseConstants := by decide +kernel

theorem test_reject_rsp_crc :
    decode .rsp 0x06 [0x06, 0x04, 0x02, 0x01, 0x5F, 0x4D, 0x59] = .rejected .responseCrc := by decide +kernel

/-- R53: a short frame is not a row yet. -/
theorem test_reject_short_request : decode .req 0x06 [0x06, 0, 0, 0x01] = .rejected .shortRequest := by decide +kernel

theorem test_reject_no_byte : decode .req 0x06 [] = .rejected .noByte := by decide

/-! ### Encoding -/

/-- V-FC-8's bytes. -/
theorem test_encode_temp :
    encode (.reqTemp 0x06 0x12 0x34 0x56 0x78) = [0x06, 0x12, 0x34, 0x01, 0x56, 0x78, 0xD8, 0x0C] := by decide +kernel

/-- V-ENC-9. -/
theorem test_encode_rsp : encode (.rspValue 0x01 0x0100) = [0x01, 0x04, 0x02, 0x01, 0x00, 0xB8, 0xA0] := by
  decide +kernel

/-! ### CRC16 Engine -/

/-- V-CRC-6, the published check value. -/
theorem test_crc_check_value : crc16 [0x31, 0x32, 0x33, 0x34, 0x35, 0x36, 0x37, 0x38, 0x39] 9 = 0x4B37 := by
  decide +kernel

/-- V-CRC-1 and V-CRC-7, from a register that held something else. -/
theorem test_crc_compute :
    ((after (exec (.crc16Compute [0x06, 0, 0, 0x01, 0, 0] 0) { block with crc := 0x1234 })).map (·.crc),
     (after (exec (.crc16Compute [0x06, 0, 0, 0x01, 0, 0] 6) { block with crc := 0x1234 })).map (·.crc)) =
      (some 0xFFFF, some 0xBD51) := by decide +kernel

/-- Spot entries of `TAB` (95_test_vectors.md 2.1). -/
theorem test_tab :
    [tab 0x00, tab 0x01, tab 0x13, tab 0x3B, tab 0x90, tab 0xF9, tab 0xFF] =
      [0x0000, 0xC0C1, 0xCD41, 0xD341, 0x6C00, 0x42C0, 0x4040] := by decide +kernel

/-! ### Frame Codec -/

/-- V-FC-1, V-FC-5, V-FC-6, V-FC-9. -/
theorem test_validate :
    [frameTemp, frameBad, #v[0x06, 0, 0, 0x01, 0, 0, 0x50, 0xBD], #v[0x06, 0x12, 0x34, 0x01, 0x56, 0x78, 0x51, 0xBD]].map
      (fun f => (after (exec .fcValidate (blockAt .validate f))).map fun t => (t.crcOk, t.crc)) =
      [some (true, 0xBD51), some (false, 0xBD51), some (false, 0xBD51), some (false, 0x0CD8)] := by decide +kernel

/-- V-DT-1 to V-DT-7. -/
theorem test_decodeRequestType :
    [0x01, 0x02, 0x00, 0x03, 0x04, 0xFF, 0x81].map
      (fun b => (after (exec .fcDecodeRequestType (blockAt .decode (frameTemp.set 3 b)))).map (·.rtype)) =
      [some .temperature, some .humidity, some .unknown, some .unknown, some .unknown, some .unknown,
        some .unknown] := by decide +kernel

/-- V-ENC-7 and V-ENC-8. -/
theorem test_encodeResponse :
    [(0x00, 0x1234), (0xFF, 0x00FF)].map
      (fun p => (after (exec (.fcEncodeResponse p.1 p.2) block)).map fun t => t.rsp) =
      [some #v[0x00, 0x04, 0x02, 0x12, 0x34, 0x89, 0x87], some #v[0xFF, 0x04, 0x02, 0x00, 0xFF, 0xD0, 0xA4]] := by
  decide +kernel

/-! ### Dispatcher -/

/-- V-H-1, V-H-2, V-H-3. -/
theorem test_notify :
    ([[0x06, 0x00, 0x00], [0x07], [0x00]] : List (List Byte)).map
      (fun q => (after (exec .dispNotify { block with rxq := q })).map fun t => (t.dstate, t.notifyEn, t.req[0], t.rxq)) =
      [some (.addressMatched, false, 0x06, [0x00, 0x00]), some (.addressMismatched, false, 0x07, []),
        some (.addressMismatched, false, 0x00, [])] := by decide +kernel

/-- V-H-7 and V-N-1: disabled, the byte stays queued and is taken after re-enabling. -/
theorem test_notify_disabled :
    ((after (exec .dispNotify { block with rxq := [0x06], notifyEn := false })).map fun t => (t.dstate, t.rxq)) =
      some (.idle, [0x06]) := by decide +kernel

/-- V-P-1 to V-P-3. -/
theorem test_poll :
    [DState.idle, .addressMatched, .addressMismatched].map
      (fun d => (after (exec .mainPoll { block with dstate := d })).map fun t => (t.dstate, t.mseq)) =
      [some (.idle, .poll), some (.idle, .read), some (.idle, .mismatch)] := by decide +kernel

/-- V-R-1. -/
theorem test_readFrame :
    ((after (exec .mainReadFrame
      { blockAt .read (Vector.replicate 8 0x06) with rxq := [0, 0, 0x01, 0, 0, 0x51, 0xBD, 0x99] })).map
        fun t => (t.req, t.rxq, t.mseq)) = some (frameTemp, [0x99], .indOn) := by decide +kernel

/-- V-R-2: three bytes have come; MAIN is blocked with `BYTEIDX` 4. -/
theorem test_readFrame_blocked :
    ((after (exec .mainReadFrame { blockAt .read (Vector.replicate 8 0x06) with rxq := [0, 0, 0x01] })).map
        fun t => (t.byteIdx, t.rxq, t.mseq)) = some (4, [], .read) := by decide +kernel

/-- R113. -/
theorem test_indicatorOn :
    ((after (exec .mainIndicatorOn (blockAt .indOn frameBad))).map fun t => (t.indicator, t.mseq)) =
      some (true, .validate) := by decide +kernel

/-- V-D-2. -/
theorem test_validateStep :
    ((after (exec .mainValidateStep (blockAt .validate frameBad))).map fun t => (t.mseq, t.trace, t.txlog)) =
      some (.rearm, [.event (.crcMismatch frameBad), .diag .crcMismatch], []) := by decide +kernel

/-- V-D-3. -/
theorem test_decodeStep :
    ((after (exec .mainDecodeStep (blockAt .decode frameUnk))).map fun t => (t.mseq, t.trace)) =
      some (.rearm, [.event (.unknownType 0x03)]) := by decide +kernel

/-- R117 with V-ENC-1. -/
theorem test_encodeStep :
    ((after (exec .mainEncodeStep { blockAt .encode frameTemp with value := 0x015F })).map fun t => (t.rsp, t.mseq)) =
      some (#v[0x06, 0x04, 0x02, 0x01, 0x5F, 0x4D, 0x58], .send) := by decide +kernel

/-- R118. -/
theorem test_send :
    ((after (exec .mainSend
      { blockAt .send frameTemp with rsp := #v[0x06, 0x04, 0x02, 0x01, 0x5F, 0x4D, 0x58], txlog := [0xAA] })).map
        fun t => (t.txlog, t.mseq)) = some ([0xAA, 0x06, 0x04, 0x02, 0x01, 0x5F, 0x4D, 0x58], .pace) := by decide +kernel

/-- R119. -/
theorem test_paceRearm :
    ((after (exec .mainPaceRearm (blockAt .pace frameTemp))).map fun t => (t.notifyEn, t.mseq, t.trace)) =
      some (true, .poll, [.delay .pace]) := by decide +kernel

/-- V-M-1. -/
theorem test_mismatch :
    (after (exec .mainMismatch
      { blockAt .mismatch (frameTemp.set 0 0x07) with indicator := true, rxq := [0, 0, 0x01], txlog := [0x55] })).any
        (fun t => !t.indicator && t.rxq == [] && t.rxEn && t.notifyEn && t.mseq == .poll && t.txlog == [0x55] &&
          t.trace == [.event (.addrMismatch 0x07), .diag .addressMismatch]) = true := by decide +kernel

/-! ### Sensor Driver -/

/-- V-SD-10: the stimulus the tests use is the spec's sequence of reads, down to bit 0 and bit 6. -/
theorem test_stimulus :
    (prepReads true (timing 0x028C015FEE), bitReads ((timing 0x028C015FEE).bit 0) (streamBit 0x028C015FEE 0),
      bitReads ((timing 0x028C015FEE).bit 6) (streamBit 0x028C015FEE 6)) =
      ([true, true, false, false, false, true, true, false], [false, true, false, false],
        [false, true, true, true, false]) := by decide +kernel

/-- V-SD-1 through the pin. -/
theorem test_acquire :
    (after (exec .sdAcquire
      { block with pinq := acquisitionReads true (timing 0x028C015FEE) 0x028C015FEE })).any
        (fun t => t.hum == 0x028C && t.tmp == 0x015F && t.chk == 0xEE && t.chkOk && t.sdseq == .idle &&
          t.pinMode == .input && t.pinOut) = true := by decide +kernel

/-- V-SD-11: the sensor never pulls the line low. -/
theorem test_acquire_hangs :
    ((after (exec .sdAcquire { block with pinq := [true, true, true] })).map fun t => (t.sdseq, t.pinq)) =
      some (.prep .p1, []) := by decide +kernel

/-- V-SD-2, V-SD-3, V-SD-5, V-SD-7: what a stream gives with `SUM4`. -/
theorem test_strData_sum4 :
    [(0x028C, 0x015F, 0xEF), (0x0000, 0x0000, 0x00), (0xFFFF, 0xFFFF, 0xFF), (0x03E8, 0x8065, 0xD0)].map
      (fun p => (after (exec (.strData p.1 p.2.1 p.2.2) block)).map fun t => (t.hum, t.tmp, t.sdseq, t.trace)) =
      [some (0, 0, .fail, [.event (.sensorChk 0xEF)]), some (0, 0, .done, []),
        some (0, 0, .fail, [.event (.sensorChk 0xFF)]), some (0x03E8, 0x8065, .done, [])] := by decide +kernel

/-- V-SD-5, V-SD-6, V-SD-9: with `SUM4_EAC`. -/
theorem test_strData_eac :
    [(0xFFFF, 0xFFFF, 0xFF), (0xFFFF, 0xFFFF, 0xFC), (0x0190, 0x00FA, 0x8B)].map
      (fun p => (after (exec (.strData p.1 p.2.1 p.2.2)
        { block with cfg := { Config.default with sensorChk := .sum4Eac } })).map fun t => (t.hum, t.tmp)) =
      [some (0xFFFF, 0xFFFF), some (0, 0), some (0, 0)] := by decide +kernel

/-! ### Sampling Engine -/

/-- V-SE-1, V-SE-3, V-SE-4, V-SE-6, V-SE-9. -/
theorem test_median :
    [[0x0005, 0x0003, 0x0008, 0x0001, 0x0009, 0x0002, 0x0007, 0x0004, 0x0006],
      [0x0290, 0x028C, 0x028E, 0x0000, 0x028D, 0x028C, 0x0291, 0x028B, 0x028F],
      [0x015F, 0x015F, 0x015F, 0x015F, 0, 0, 0, 0, 0],
      [0xFFFF, 0x0000, 0x8000, 0x7FFF, 0x0001, 0xFFFE, 0x0002, 0x8001, 0x0003],
      [0xFF9B, 0x0010, 0x0005, 0xFFF6, 0x0000, 0x0001, 0xFFFF, 0x0002, 0x0003]].map median =
      [([0x0009, 0x0008, 0x0007, 0x0006, 0x0005, 0x0004, 0x0003, 0x0002, 0x0001], some 0x0005),
        ([0x0291, 0x0290, 0x028F, 0x028E, 0x028D, 0x028C, 0x028C, 0x028B, 0x0000], some 0x028D),
        ([0x015F, 0x015F, 0x015F, 0x015F, 0, 0, 0, 0, 0], some 0),
        ([0xFFFF, 0xFFFE, 0x8001, 0x8000, 0x7FFF, 0x0003, 0x0002, 0x0001, 0x0000], some 0x7FFF),
        ([0xFFFF, 0xFFF6, 0xFF9B, 0x0010, 0x0005, 0x0003, 0x0002, 0x0001, 0x0000], some 0x0005)] := by decide +kernel

set_option maxRecDepth 100000 in
/-- Which field is kept (95_test_vectors.md 2.5): every acquisition returns (028C, 015F). -/
theorem test_sampleMedian_field :
    ((after (exec (.seSampleMedian .humidity) (sampling .unknown fun _ => 0x028C015FEE))).map fun t =>
      (t.value, (t.trace.filter (· == .delay .cooldown)).length)) = some (0x028C, 8) := by decide +kernel

set_option maxRecDepth 100000 in
/-- Program P2's sampling: `VALUE`, and the one event. -/
theorem test_sampleStep :
    ((after (exec .mainSampleStep (sampling .humidity streamsP2))).map fun t =>
      (t.value, t.mseq, t.trace.filter fun o => match o with | .event _ => true | _ => false)) =
      some (0x028D, .encode, [.event (.sensorChk 0x00)]) := by decide +kernel

/-! ### The encoded rows, each as one step of the machine -/

set_option maxRecDepth 100000 in
/-- Program P1. -/
theorem test_step_temp :
    (after (step
      { State.reset.withFetchWord 64 0x06000001000051BD with
        pinq := samplingReads true (fun k => timing (streamsP1 k)) streamsP1 0 9 })).any (fun t =>
      t.mseq == .poll && t.dstate == .idle && t.notifyEn && t.rxEn && t.sdseq == .idle && t.indicator &&
        t.pinMode == .input && t.pinOut && t.req == frameTemp && t.crcOk && t.rtype == .temperature &&
        t.hum == 0x028C && t.tmp == 0x015E && t.chk == 0xED && t.chkOk && t.value == 0x015F &&
        t.rsp == #v[0x06, 0x04, 0x02, 0x01, 0x5F, 0x4D, 0x58] && t.crc == 0x584D && t.rxq == [] &&
        t.txlog == [0x06, 0x04, 0x02, 0x01, 0x5F, 0x4D, 0x58]) = true := by decide +kernel

set_option maxRecDepth 100000 in
/-- Program P2's answer. -/
theorem test_step_hum :
    ((after (step
      { State.reset.withFetchWord 64 0x060000020000A1BD with
        pinq := samplingReads true (fun k => timing (streamsP2 k)) streamsP2 0 9 })).map fun t =>
      (t.txlog, t.hum, t.chk, t.notifyEn)) =
      some ([0x06, 0x04, 0x02, 0x02, 0x8D, 0xCD, 0xF5], 0x028F, 0xF1, true) := by decide +kernel

/-- Program P5. -/
theorem test_step_unk :
    (after (step (State.reset.withFetchWord 64 0x060000030000F07D))).any (fun t =>
      t.mseq == .poll && t.notifyEn && t.indicator && t.crc == 0x7DF0 && t.rtype == .unknown && t.txlog == [] &&
        t.trace == [.event (.unknownType 0x03)]) = true := by decide +kernel

/-- Program P4. -/
theorem test_step_badCrc :
    (after (step (State.reset.withFetchWord 64 0x06000001000051BC))).any (fun t =>
      t.mseq == .poll && t.notifyEn && t.indicator && t.crc == 0xBD51 && !t.crcOk && t.txlog == [] &&
        t.trace == [.event (.crcMismatch frameBad), .diag .crcMismatch]) = true := by decide +kernel

/-- Program P3, the foreign frame queued whole: one mismatch cycle. -/
theorem test_step_other :
    (after (step
      { block with indicator := true, rxq := [0x07, 0, 0, 0x01, 0, 0, 0x50, 0x6C], sched := [.transact] })).any (fun t =>
      t.mseq == .poll && t.notifyEn && !t.indicator && t.rxq == [] && t.req[0] == 0x07 &&
        t.trace == [.event (.addrMismatch 0x07), .diag .addressMismatch]) = true := by decide +kernel

/-- V-ENC-1 as a step. -/
theorem test_step_rsp :
    ((after (step (State.reset.withFetchWord 56 0x060402015F4D58))).map fun t => (t.txlog, t.mseq)) =
      some ([0x06, 0x04, 0x02, 0x01, 0x5F, 0x4D, 0x58], .pace) := by decide +kernel

/-- V-SD-1 as a step. -/
theorem test_step_str :
    ((after (step (State.reset.withFetchWord 40 0x028C015FEE))).map fun t => (t.hum, t.tmp, t.sdseq)) =
      some (0x028C, 0x015F, .done) := by decide +kernel

/-- V-M-2: a byte sent between `RX_EN <- 0` and `RX_EN <- 1` never appears. -/
theorem test_flush_window :
    ((after (turns [.stmt, .master 0x06, .stmt, .master 0x99]
      { blockAt .mismatch (frameTemp.set 0 0x07) with sub := 2, rxq := [0, 0] })).map fun t => (t.rxq, t.rxEn)) =
      some ([0x99], true) := by decide +kernel

/-- R190, R33: a reset in the middle of a cycle. -/
theorem test_reset :
    (after (act .reset { blockAt .mismatch frameBad with sub := 3, rxEn := false, txlog := [0x01] })).any (fun t =>
      t.mseq == .poll && t.dstate == .idle && t.notifyEn && t.rxEn && t.sdseq == .idle && t.rxq == [] &&
        t.txlog == [] && t.slaveAddr == 0x06) = true := by decide +kernel

/-! ### Witnesses: for every obligation with hypotheses, inputs that meet them all, clause by clause -/

theorem witness_EncodeThenDecodeGivesTheRow_req :
    (Instr.reqTemp 0x06 0xFF 0 0 0).wellFormed 0x06 = true ∧ formatOf (.reqTemp 0x06 0xFF 0 0 0) = some .req := by decide

theorem witness_EncodeThenDecodeGivesTheRow_rsp :
    (Instr.rspValue 0xFF 0xFFFF).wellFormed 0x06 = true ∧ formatOf (.rspValue 0xFF 0xFFFF) = some .rsp := by decide

theorem witness_EncodeThenDecodeGivesTheRow_str :
    (Instr.strData 0 0xFFFF 0).wellFormed 0x06 = true ∧ formatOf (.strData 0 0xFFFF 0) = some .str := by decide

theorem witness_DecodedBytesHaveOneMeaning :
    decode .req 0x06 [0x07, 0x06] = .ok (.reqOther 0x07) [0x06] := by decide

theorem witness_RequestTestsAreMadeInOrder_other : (0x07 : Byte) ≠ 0x06 := by decide

theorem witness_RequestTestsAreMadeInOrder_badCrc :
    ¬ ((0x51 : Byte) = loByte (crc16 [0x06, 0, 0, 0x01, 0, 0] 6) ∧
      (0xBC : Byte) = hiByte (crc16 [0x06, 0, 0, 0x01, 0, 0] 6)) := by decide +kernel

theorem witness_RequestTestsAreMadeInOrder_valid :
    (0x51 : Byte) = loByte (crc16 [0x06, 0, 0, 0x01, 0, 0] 6) ∧
      (0xBD : Byte) = hiByte (crc16 [0x06, 0, 0, 0x01, 0, 0] 6) ∧
      (0xA1 : Byte) = loByte (crc16 [0x06, 0, 0, 0x02, 0, 0] 6) ∧
      (0xBD : Byte) = hiByte (crc16 [0x06, 0, 0, 0x02, 0, 0] 6) ∧
      (0xF0 : Byte) = loByte (crc16 [0x06, 0, 0, 0x03, 0, 0] 6) ∧
      (0x7D : Byte) = hiByte (crc16 [0x06, 0, 0, 0x03, 0, 0] 6) ∧ (0x03 : Byte) ≠ 0x01 ∧ (0x03 : Byte) ≠ 0x02 := by
  decide +kernel

theorem witness_CrcSeparatesFramesOneBitApart : 0 < 8 ∧ 7 < 8 := by decide

theorem witness_CrcComputeFoldsFromFFFF : 0 ≤ ([] : List Byte).length ∧ 2 ≤ [(0x06 : Byte), 0x00].length := by decide

theorem witness_OperandsWithoutMeaningAreRefused :
    ([] : List Byte).length < 1 ∧ block.rtype = .unknown := by decide +kernel

theorem witness_ValidateDetectsSingleBitErrors :
    let s := blockAt .validate frameTemp
    7 < 8 ∧ s.req[6] = loByte (crc16 s.req.toList 6) ∧ s.req[7] = hiByte (crc16 s.req.toList 6) := by decide +kernel

theorem witness_HandlerClassifiesOneByte :
    let s := { block with rxq := [0x06] }
    s.notifyEn = true ∧ s.rxEn = true ∧ s.rxq = 0x06 :: [] := by decide +kernel

theorem witness_HandlerNeedsPendingAndEnabled :
    let s := { block with rxq := [0x06], notifyEn := false }
    ¬ (s.notifyEn = true ∧ s.rxEn = true ∧ s.rxq ≠ []) := by decide +kernel

theorem witness_ReadFrameTakesSevenBytes :
    let s := { blockAt .read frameTemp with rxq := [0, 0, 0x01, 0, 0, 0x51, 0xBD] }
    s.sub = 0 ∧ s.rxq = 0 :: 0 :: 0x01 :: 0 :: 0 :: 0x51 :: 0xBD :: [] := by decide +kernel

theorem witness_ReadFrameWaitsForMissingBytes :
    let s := { blockAt .read frameTemp with rxq := [0, 0, 0x01, 0, 0, 0x51] }
    s.mseq = .read ∧ s.sub = 0 ∧ s.rxEn = true ∧ s.rxq.length < 7 ∧ 7 ≤ s.rxq.length + [(0xBD : Byte)].length := by
  decide +kernel

theorem witness_IndicatorGoesOnAfterTheRead : (blockAt .indOn frameTemp).sub = 0 := by decide +kernel

theorem witness_SampleStepStoresTheMedian :
    let s := sampling .humidity streamsP2
    s.sub = 0 ∧ s.sdseq = .idle ∧ s.rtype ≠ .unknown ∧
      s.pinq = samplingReads s.cfg.prepLowWait (fun k => timing (streamsP2 k)) streamsP2 0 9 ++ [] :=
  ⟨rfl, rfl, by decide, (List.append_nil _).symm⟩

theorem witness_SendAppendsTheSevenBytes : (blockAt .send frameTemp).sub = 0 := by decide +kernel

theorem witness_PaceRearmEnablesTheNotification :
    (blockAt .pace frameTemp).sub = 0 ∧ (blockAt .pace frameTemp).mseq = .pace ∧
      (blockAt .rearm frameTemp).sub = 0 ∧ (blockAt .rearm frameTemp).mseq = .rearm := by decide +kernel

theorem witness_MismatchFlushesAndRearms : (blockAt .mismatch frameTemp).sub = 0 := by decide +kernel

theorem witness_AcquisitionBeginsWithStartPulse : block.sdseq = .idle := by decide +kernel

theorem witness_AcquisitionReturnsItsStream :
    let s := { block with pinq := acquisitionReads true (timing 0x028C015FEE) 0x028C015FEE }
    s.sdseq = .idle ∧ s.pinq = acquisitionReads s.cfg.prepLowWait (timing 0x028C015FEE) 0x028C015FEE ++ [] :=
  ⟨rfl, (List.append_nil _).symm⟩

theorem witness_BusyPollsWaitWithoutBound :
    let s := fun (q : SdSeq) (l : Bool) => { block with sdseq := q, pinq := List.replicate (2 + 1) l }
    ∀ q l, (q, l) ∈ [(SdSeq.prep .p1, true), (.prep .p2, false), (.prep .p3, true), (.data .a, false), (.data .d, true)] →
      (s q l).pinMode = .input ∧ (s q l).pinq = List.replicate (2 + 1) l ∧ (s q l).sdseq = q := fun _ _ _ => ⟨rfl, rfl, rfl⟩

theorem witness_SampleMedianOfNineStreams :
    let s := sampling .unknown streamsP1
    ReqType.temperature ≠ .unknown ∧ s.sub = 0 ∧ s.sdseq = .idle ∧
      s.pinq = samplingReads s.cfg.prepLowWait (fun k => timing (streamsP1 k)) streamsP1 0 9 ++ [] :=
  ⟨by decide, rfl, rfl, (List.append_nil _).symm⟩

/-- With four zeros and with five (V-SE-5, V-SE-4). -/
theorem witness_ZeroReadingsTakePartInTheMedian :
    (Vector.ofFn fun i : Fin 9 => if i.val < 5 then (0x015F : Word) else 0).toList.Perm
        (List.replicate 5 0x015F ++ List.replicate 4 0) ∧
      (Vector.ofFn fun i : Fin 9 => if i.val < 4 then (0x015F : Word) else 0).toList.Perm
        (List.replicate 4 0x015F ++ List.replicate 5 0) ∧ 4 ≤ 4 ∧ 5 ≤ 5 := by decide +kernel

theorem witness_ValidRequestIsAnsweredWithTheMedian :
    let s := { block with pinq := samplingReads true (fun k => timing (streamsP1 k)) streamsP1 0 9 }
    s.ready = true ∧ s.sdseq = .idle ∧
      s.pinq = samplingReads s.cfg.prepLowWait (fun k => timing (streamsP1 k)) streamsP1 0 9 ++ [] :=
  ⟨rfl, rfl, (List.append_nil _).symm⟩

theorem witness_UnknownRequestIsDropped : block.ready = true ∧ (0x00 : Byte) ≠ 0x01 ∧ (0x00 : Byte) ≠ 0x02 := by
  decide +kernel

theorem witness_BadCrcRequestIsDropped :
    block.ready = true ∧
      ¬ ((0x51 : Byte) = loByte (crc16 [block.slaveAddr, 0, 0, 0x01, 0, 0] 6) ∧
        (0xBC : Byte) = hiByte (crc16 [block.slaveAddr, 0, 0, 0x01, 0, 0] 6)) := by decide +kernel

theorem witness_OtherAddressRequestIsFlushed : block.ready = true ∧ (0x00 : Byte) ≠ block.slaveAddr := by decide +kernel

theorem witness_FrameWaitsWhileNotReady :
    formatOf (.reqOther 0x07) = some .req ∧ (blockAt .pace frameTemp).ready = false ∧
      (blockAt .pace frameTemp).rxEn = true ∧
      ({ blockAt .mismatch frameTemp with sub := 3, rxEn := false } : State).ready = false := by decide +kernel

theorem witness_StepRunsTheAgentOfTheTurn :
    ∀ t ∈ [Turn.main, .handler, .stmt, .master 0x06],
      ({ block with sched := [t] } : State).sched = t :: [] := fun _ _ => rfl

/-- The reset clause: the queue, the transmit log and a pending classification are gone, the indicator is log 5's value. -/
theorem witness_StepRunsTheAgentOfTheTurn_reset :
    let s := { blockAt .pace frameTemp with rxq := [0x07], txlog := [0x06], dstate := .addressMatched, indicator := true,
                                            sched := [.reset, .main] }
    s.sched = .reset :: [.main] ∧
      after (step s) = some { State.resetWith s.slaveAddr s.cfg with
        pinq := s.pinq, trace := s.trace, sched := [.main], tick := s.tick } := by decide +kernel

/-- The clause for an empty stimulus: the turn is the free one, and its counter advances. -/
theorem witness_StepRunsTheAgentOfTheTurn_free :
    block.sched = [] ∧ nextTurn block = (Config.freeTurn block.tick, { block with tick := 1 }) := ⟨rfl, rfl⟩

/-- The master's clause with the receiver off: the byte is lost. -/
theorem witness_StepRunsTheAgentOfTheTurn_lost :
    let s := { blockAt .mismatch frameTemp with rxEn := false, rxq := [], sched := [.master 0x06] }
    s.sched = .master 0x06 :: [] ∧ s.rxEn = false ∧ (after (step s)).map (·.rxq) = some [] := by decide +kernel

theorem witness_StepRunsTheDecodedRow_req :
    let s := { block with rxq := [0x07, 0x01], sched := [.transact] }
    s.sched = .transact :: [] ∧ s.ready = true ∧ decode .req s.slaveAddr s.rxq = .ok (.reqOther 0x07) [0x01] := by
  decide +kernel

theorem witness_StepRunsTheDecodedRow_str_rsp :
    let s := { blockAt .sample frameTemp with sdseq := .data .asm, sched := [.transact] }
    let r := { blockAt .encode frameTemp with sched := [.transact] }
    s.sched = .transact :: [] ∧ s.mseq = .sample ∧ s.sdseq = .data .asm ∧ r.sched = .transact :: [] ∧ r.mseq = .encode := by
  decide +kernel

/-- The reset state of the configured block meets the invariant. -/
theorem inv_reset : State.reset.Inv where
  notify_rearmed := fun _ => ⟨fun _ => rfl, fun _ => rfl⟩
  notify_cycle := fun h => absurd (Or.inl rfl) h
  rx_window := ⟨fun h => (by cases h), fun h => (by cases h.1)⟩
  rx_empty := fun _ => rfl
  address_matched := fun h => (by rcases h with h | h <;> cases h)
  address_mismatched := fun h => (by rcases h with h | ⟨h, -⟩ <;> cases h)
  crc_valid := fun h => (by cases h)
  type_known := fun h => (by cases h)
  indicator_on := fun h => (by rcases h with h | ⟨h, -⟩ <;> cases h)
  response_built := fun h => (by cases h)
  driver_called := fun h => absurd rfl h
  pin_input := fun h => (by cases h)
  pin_driven := fun _ h => (by cases h)
  bit_range := fun _ h => (by cases h)
  bit_bound := by decide +kernel
  sample_bound := by decide +kernel
  sample_open := fun h => absurd rfl h
  byte_bound := by decide +kernel
  read_from_one := fun h => (by cases h)
  send_bound := fun h => (by cases h)
  sub_bound := by decide +kernel

theorem witness_StepAlwaysAnswers : State.reset.Inv := inv_reset

/-- The same state with a turn due: a step answers. -/
theorem witness_StepKeepsTheInvariant :
    ∃ s t, State.Inv s ∧ step s = .next t :=
  ⟨{ State.reset with sched := [.stmt] }, _, { inv_reset with }, rfl⟩

theorem witness_QuiescentCoreOnlyPolls :
    let s := { block with sched := [.handler] }
    s.quiescent ∧ s.sub = 0 ∧ s.sched = .handler :: [] ∧ (∀ b, Turn.handler ≠ .master b) ∧ Turn.handler ≠ .reset :=
  ⟨⟨rfl, rfl, rfl, rfl, rfl, rfl⟩, rfl, rfl, fun _ h => (by cases h), fun h => (by cases h)⟩

/-- A block in the pace of a matched cycle. -/
theorem witness_HandlerWaitsForRearming :
    let s := { State.reset with mseq := .pace, notifyEn := false, indicator := true }
    s.Inv ∧ ¬ s.rearmed := by
  have hr : ¬ ({ State.reset with mseq := .pace, notifyEn := false, indicator := true } : State).rearmed := by
    rintro (h | h | h)
    · cases h
    · cases h.1
    · cases h.1
  exact ⟨
    { notify_rearmed := fun h => absurd h hr
      notify_cycle := fun _ => ⟨rfl, rfl⟩
      rx_window := ⟨fun h => (by cases h), fun h => (by cases h.1)⟩
      rx_empty := fun _ => rfl
      address_matched := fun h => (by rcases h with h | h <;> cases h)
      address_mismatched := fun h => (by rcases h with h | ⟨h, -⟩ <;> cases h)
      crc_valid := fun h => (by cases h)
      type_known := fun h => (by cases h)
      indicator_on := fun _ => rfl
      response_built := fun h => (by cases h)
      driver_called := fun h => absurd rfl h
      pin_input := fun h => (by cases h)
      pin_driven := fun _ h => (by cases h)
      bit_range := fun _ h => (by cases h)
      bit_bound := by decide +kernel
      sample_bound := by decide +kernel
      sample_open := fun h => absurd rfl h
      byte_bound := by decide +kernel
      read_from_one := fun h => (by cases h)
      send_bound := fun h => (by cases h)
      sub_bound := by decide +kernel }, hr⟩

theorem witness_BytesSentDuringTheFlushAreLost :
    let s := { blockAt .mismatch frameTemp with sub := 2 }
    s.mseq = .mismatch ∧ s.sub = 2 := by decide +kernel

theorem witness_MainSequencerFollowsItsTable :
    ∀ m ∈ [MSeq.poll, .read, .indOn, .validate, .decode, .encode, .send, .pace, .rearm, .mismatch],
      (after (mainStmt (blockAt m frameTemp))).isSome = true := by decide +kernel

theorem witness_MainSequencerFollowsItsTable_sample_handler :
    (after (mainStmt (sampling .humidity fun _ => 0))).isSome = true ∧
      (after (exec .dispNotify { block with rxq := [0x06] })).isSome = true := by decide +kernel

/-- MAIN inside its operations and at their last statements: each side of every condition on the position or a counter. -/
theorem witness_MainSequencerFollowsItsTable_inside :
    ∀ p ∈ [(MSeq.read, 1, 7, MSeq.read), (.read, 1, 8, .indOn), (.indOn, 1, 0, .validate), (.send, 1, 6, .send),
      (.send, 1, 7, .pace), (.rearm, 1, 0, .poll), (.mismatch, 5, 0, .mismatch), (.mismatch, 6, 0, .poll)],
      (after (mainStmt { blockAt p.1 frameTemp with sub := p.2.1, byteIdx := p.2.2.1 })).any
        (fun t => t.mseq == p.2.2.2) = true := by decide +kernel

theorem witness_MainSequencerFollowsItsTable_sampled :
    ∀ p ∈ [(8, MSeq.sample), (9, .encode)],
      (after (mainStmt { blockAt .sample frameTemp with rtype := .humidity, sub := 1, smpIdx := p.1 })).any
        (fun t => t.mseq == p.2) = true := by decide +kernel

theorem witness_DriverSequencerFollowsItsTable :
    ∀ q ∈ [SdSeq.idle, .start .wake, .start .low, .start .release, .start .input, .prep .p1, .prep .p2, .prep .p3, .data .a,
      .data .c, .data .d, .data .asm, .done, .fail],
      let s := { blockAt .sample frameTemp with rtype := .temperature, sub := 1, sdseq := q, pinq := [false] }
      s.mseq = .sample ∧ s.sub ≠ 0 ∧ (after (mainStmt s)).isSome = true := by decide +kernel

theorem witness_MismatchNeverReachesCodecOrDriver :
    (blockAt .mismatch frameTemp).mseq = .mismatch ∧ Turn.transact ≠ .handler ∧ Turn.transact ≠ .reset ∧
      (after (act .transact (blockAt .mismatch frameTemp))).isSome = true := by decide +kernel

theorem witness_OnlySendTransmits :
    ∀ u ∈ [Turn.stmt, .handler, .master 0x06], (after (act u (blockAt .send frameTemp))).isSome = true := by
  decide +kernel

theorem witness_ConfigurationNeverChanges :
    (after (step { block with sched := [.reset] })).isSome = true := by decide +kernel

theorem witness_ControlRegistersHaveNoOtherWriter :
    (after (mainStmt (blockAt .indOn frameTemp))).any
      (fun t => t.indicator != (blockAt .indOn frameTemp).indicator) = true ∧
    (after (mainStmt (blockAt .rearm frameTemp))).any
      (fun t => t.notifyEn != (blockAt .rearm frameTemp).notifyEn) = true ∧
    (after (mainStmt { blockAt .mismatch frameTemp with sub := 2 })).any (fun t => t.rxEn != true) = true ∧
    (after (mainStmt { blockAt .sample frameTemp with rtype := .humidity, sub := 1, sdseq := .start .wake })).any
      (fun t => t.pinMode != .input) = true ∧
    (after (mainStmt { block with dstate := .addressMatched })).any (fun t => t.dstate != .addressMatched) = true := by
  decide +kernel

theorem witness_MainTurnIsItsStatements :
    (after (act .main (blockAt .read frameTemp))).isSome = true := by decide +kernel

theorem witness_RequestTurnIsHandlerThenStatements :
    let s := { block with rxq := [0x07] }
    s.ready = true ∧ decode .req s.slaveAddr s.rxq = .ok (.reqOther 0x07) [] ∧
      (after (act .transact s)).isSome = true := by decide +kernel

/-- The same for a frame of this block, whole in the queue, that MAIN reads and discards. -/
theorem witness_RequestTurnIsHandlerThenStatements_matched :
    let s := { block with rxq := [0x06, 0, 0, 0x01, 0, 0, 0x51, 0xBC] }
    s.ready = true ∧ decode .req s.slaveAddr s.rxq = .ok (.reqBadCrc 0x06 0 0 0x01 0 0 0x51 0xBC) [] ∧
      (after (act .transact s)).isSome = true := by decide +kernel

/-- And for one that is sampled for and answered. -/
theorem witness_RequestTurnIsHandlerThenStatements_answered :
    let s := { block with
      rxq := [0x06, 0, 0, 0x01, 0, 0, 0x51, 0xBD]
      pinq := samplingReads true (fun k => timing (streamsP1 k)) streamsP1 0 9 }
    s.ready = true ∧ decode .req s.slaveAddr s.rxq = .ok (.reqTemp 0x06 0 0 0 0) [] ∧
      (after (act .transact s)).isSome = true := by decide +kernel

end Sys2Proof.Tests
end

/-! ## The invariant: reset, the handler, and where MAIN stands -/

namespace Sys2Proof.Machine

section
variable {s t : State}

/-! ### What the invariant says of a MAIN that stands somewhere -/

theorem not_rearmed_of_mseq (hp : s.mseq ≠ .poll) (hr : s.mseq ≠ .rearm) (hm : s.mseq ≠ .mismatch) : ¬ s.rearmed := by
  simp [State.rearmed, hp, hr, hm]

theorem State.Inv.rxEn_of_not_mismatch (h : s.Inv) (hm : s.mseq ≠ .mismatch) : s.rxEn = true := by
  cases hr : s.rxEn with
  | true => rfl
  | false => exact absurd (h.rx_window.mp hr).1 hm

/-- Outside the sampling the driver is at rest (R130). -/
theorem State.Inv.sdseq_idle (h : s.Inv) (hm : ¬ (s.mseq = .sample ∧ s.sub ≠ 0)) : s.sdseq = .idle :=
  by_contra fun hd => hm (h.driver_called hd)

/-- Where the handler may run, a disabled notification means a classified byte, and the reverse (R32). -/
theorem State.Inv.rearmed_of_notifyEn (h : s.Inv) (hn : s.notifyEn = true) : s.rearmed := by
  by_contra hr
  simp [(h.notify_cycle hr).1] at hn

/-! ### Turns of the environment and the handler -/

theorem State.resetWith_inv (a : Byte) (c : Config) : (State.resetWith a c).Inv where
  notify_rearmed _ := by simp [State.resetWith]
  notify_cycle h := absurd (Or.inl rfl) h
  rx_window := by simp [State.resetWith]
  rx_empty _ := rfl
  address_matched := by simp [State.resetWith, MSeq.matched]
  address_mismatched := by simp [State.resetWith]
  crc_valid := nofun
  type_known := nofun
  indicator_on := by simp [State.resetWith, MSeq.lit]
  response_built := nofun
  driver_called h := absurd rfl h
  pin_input := nofun
  pin_driven := nofun
  bit_range := nofun
  bit_bound := Nat.zero_le _
  sample_bound := Nat.zero_le _
  sample_open h := absurd rfl h
  byte_bound := Nat.zero_le _
  read_from_one := nofun
  send_bound := nofun
  sub_bound := Nat.zero_le _

theorem State.resetEvent_inv (s : State) : s.resetEvent.Inv :=
  { State.resetWith_inv s.slaveAddr s.cfg with }

/-- Taking a turn off the stimulus, or drawing a free one, touches no register. -/
theorem State.Inv.nextTurn (h : s.Inv) : (nextTurn s).2.Inv := by
  unfold Machine.nextTurn
  split <;> exact { h with }

theorem State.Inv.masterSend (h : s.Inv) (b : Byte) : (s.masterSend b).Inv := by
  cases hr : s.rxEn with
  | true => rw [s.masterSend_on b hr]; exact { h with rx_empty := by simp [hr] }
  | false => rwa [s.masterSend_off b hr]

theorem State.Inv.masterSendAll (h : s.Inv) (bytes : List Byte) : (s.masterSendAll bytes).Inv := by
  induction bytes generalizing s with
  | nil => exact h
  | cons b bs ih => exact ih (h.masterSend b)

/-- Re-armed, MAIN is past every test of the cycle before (R32). -/
theorem State.rearmed.mseq_cases (hr : s.rearmed) :
    s.mseq = .poll ∨ s.mseq = .rearm ∨ (s.mseq = .mismatch ∧ 6 ≤ s.sub) := by
  rcases hr with hp | ⟨hm, -⟩ | hm
  · exact .inl hp
  · exact .inr (.inl hm)
  · exact .inr (.inr hm)

/-- The handler, entered only with the notification enabled, classifies one byte (R110, R171). -/
theorem State.Inv.takeNotification (h : s.Inv) (hn : s.notifyEn = true) : s.takeNotification.Inv := by
  have hr := h.rearmed_of_notifyEn hn
  cases hq : s.rxq with
  | nil => simpa [State.takeNotification, hq] using h
  | cons b q =>
    rw [s.takeNotification_cons b q hq]
    have hpast : s.mseq.matched = false ∧ s.mseq.validated = false ∧ s.mseq.typed = false ∧ s.mseq ≠ .send ∧
        ¬ (s.mseq = .mismatch ∧ s.sub < 6) := by
      rcases hr.mseq_cases with hm | hm | ⟨hm, hs⟩
      · simp [hm, MSeq.matched, MSeq.validated, MSeq.typed]
      · simp [hm, MSeq.matched, MSeq.validated, MSeq.typed]
      · simp [hm, MSeq.matched, MSeq.validated, MSeq.typed, Nat.not_lt.mpr hs]
    obtain ⟨hmatched, hvalid, htyped, hsend, hflush⟩ := hpast
    exact
      { h with
        notify_rearmed := fun _ => by simp [classify_ne_idle]
        notify_cycle := fun hc => absurd hr hc
        rx_empty := fun he => by simp [h.rx_empty he] at hq
        address_matched := by simp [hmatched, classify_eq_matched]
        address_mismatched := by simp [classify_eq_mismatched, hflush]
        crc_valid := by simp [hvalid]
        type_known := by simp [htyped]
        response_built := fun hs => absurd hs hsend }

theorem State.Inv.dispNotify (h : s.Inv) (ht : execDispNotify s = .next t) : t.Inv := by
  cases ht
  split
  · rename_i hn
    exact h.takeNotification ((s.notifyReady_iff).mp hn).1
  · exact h

end

/-- Settles O45: the values of a reset meet each clause. -/
theorem resetMeetsTheInvariant : Obligations.ResetMeetsTheInvariant :=
  State.resetWith_inv

/-- Settles O48: a reset turn in any state gives the reset values (R190). -/
theorem resetIsQuiescent : Obligations.ResetIsQuiescent :=
  ⟨fun _ _ => ⟨⟨rfl, rfl, rfl, rfl, rfl, rfl⟩, rfl, rfl⟩, rfl,
    fun s => ⟨s.resetEvent, rfl, ⟨rfl, rfl, rfl, rfl, rfl, rfl⟩, rfl, rfl, rfl⟩⟩

/-- Settles O50: while a cycle is in flight the notification is disabled. -/
theorem handlerWaitsForRearming : Obligations.HandlerWaitsForRearming := by
  intro s h hr
  have hn : s.notifyReady = false := by simp [State.notifyReady, (h.notify_cycle hr).1]
  show execDispNotify s = .next s
  simp [execDispNotify, hn]

end Sys2Proof.Machine

/-! ## MAIN keeps the invariant outside the sampling -/

namespace Sys2Proof.Machine

section
variable {s t : State}

/-! ### Moving MAIN -/

/-- What MAIN must have established to stand before operation `m`: the clauses of the invariant that speak of `MSEQ`. A
clause that does not concern `m` is closed by default. -/
structure State.MayEnter (s : State) (m : MSeq) : Prop where
  rearmed : m = .poll → (s.notifyEn = true ↔ s.dstate = .idle)
  cycle : m ≠ .poll → s.notifyEn = false ∧ s.dstate = .idle
  receiver : s.rxEn = true
  matched : m.matched = true → s.req[0] = s.slaveAddr := by nofun
  mismatched : m = .mismatch → s.req[0] ≠ s.slaveAddr := by nofun
  validated : m.validated = true → s.crcOk = true ∧ s.frameValid := by nofun
  typed : m.typed = true → s.rtype = requestTypeOf s.req[3] ∧ s.rtype ≠ .unknown := by nofun
  lit : m.lit = true → s.indicator = true := by nofun
  built : m = .send → s.rsp = responseFrame s.req[0] s.value := by nofun
  driver : s.sdseq = .idle

theorem State.goto_rearmed (s : State) (m : MSeq) : (s.goto m).rearmed ↔ m = .poll := by simp [State.rearmed]

/-- MAIN moves on, and may take over the classification as it does (R62). -/
theorem State.Inv.takeOver (h : s.Inv) {d : DState} (hd : s.dstate = d ∨ d = .idle) {m : MSeq}
    (e : ({ s with dstate := d } : State).MayEnter m) : (({ s with dstate := d } : State).goto m).Inv :=
  { h with
    notify_rearmed := fun hr => e.rearmed ((State.goto_rearmed _ m).mp hr)
    notify_cycle := fun hr => e.cycle fun hm => hr ((State.goto_rearmed _ m).mpr hm)
    rx_window := by simpa using e.receiver
    address_matched := by
      rintro (hm | rfl)
      · exact e.matched hm
      · exact h.address_matched (.inr (by simpa using hd))
    address_mismatched := by
      rintro (rfl | ⟨hm, -⟩)
      · exact h.address_mismatched (.inl (by simpa using hd))
      · exact e.mismatched hm
    crc_valid := e.validated
    type_known := e.typed
    indicator_on := by simpa using e.lit
    response_built := e.built
    driver_called := fun hd => absurd e.driver hd
    read_from_one := fun _ hs => absurd rfl hs
    send_bound := fun _ hs => absurd rfl hs
    sub_bound := Nat.zero_le _ }

theorem State.Inv.goto (h : s.Inv) {m : MSeq} (e : s.MayEnter m) : (s.goto m).Inv := h.takeOver (.inl rfl) e

/-- MAIN is inside a cycle on the matched path, before the re-arming. -/
theorem not_rearmed_of_matched (hm : s.mseq.matched = true ∨ s.mseq = .pace) : ¬ s.rearmed ∧ s.mseq ≠ .mismatch := by
  have hne : s.mseq ≠ .poll ∧ s.mseq ≠ .rearm ∧ s.mseq ≠ .mismatch := by
    refine ⟨?_, ?_, ?_⟩ <;>
    · intro he
      simp [he, MSeq.matched] at hm
  obtain ⟨hp, hr, hx⟩ := hne
  exact ⟨not_rearmed_of_mseq hp hr hx, hx⟩

/-- Inside a cycle on the matched path MAIN goes on with the address, the notification and the receiver as they are. -/
theorem State.Inv.gotoOnward (h : s.Inv) (hm : s.mseq.matched = true ∨ s.mseq = .pace) (hd : s.sdseq = .idle)
    {m : MSeq} (hp : m ≠ .poll := by nofun) (hx : m ≠ .mismatch := by nofun)
    (matched : m.matched = true → s.mseq.matched = true := by nofun)
    (validated : m.validated = true → s.crcOk = true ∧ s.frameValid := by nofun)
    (typed : m.typed = true → s.rtype = requestTypeOf s.req[3] ∧ s.rtype ≠ .unknown := by nofun)
    (lit : m.lit = true → s.indicator = true := by nofun)
    (built : m = .send → s.rsp = responseFrame s.req[0] s.value := by nofun) : (s.goto m).Inv := by
  obtain ⟨hr, hs⟩ := not_rearmed_of_matched hm
  exact h.goto
    { rearmed := fun he => absurd he hp
      cycle := fun _ => h.notify_cycle hr
      receiver := h.rxEn_of_not_mismatch hs
      matched := fun he => h.address_matched (.inl (matched he))
      mismatched := fun he => absurd he hx
      validated := validated
      typed := typed
      lit := lit
      built := built
      driver := hd }

/-- To the poll MAIN needs only the receiver, and the notification as the handler left it (R119, R120). -/
theorem State.Inv.gotoPoll (h : s.Inv) (hr : s.rearmed) (hx : s.rxEn = true) (hd : s.sdseq = .idle) :
    (s.goto .poll).Inv :=
  h.goto
    { rearmed := fun _ => h.notify_rearmed hr
      cycle := fun hp => absurd rfl hp
      receiver := hx
      driver := hd }

/-! ### Operations of a single statement -/

theorem pollTarget_eq_poll (d : DState) : pollTarget d = .poll ↔ d = .idle := by cases d <;> simp [pollTarget]

theorem pollTarget_eq_mismatch (d : DState) : pollTarget d = .mismatch ↔ d = .addressMismatched := by
  cases d <;> simp [pollTarget]

theorem pollTarget_matched (d : DState) : (pollTarget d).matched = true ↔ d = .addressMatched := by
  cases d <;> simp [pollTarget, MSeq.matched]

/-- The poll leads to the beginning of a path, where nothing is tested yet. -/
theorem pollTarget_untested (d : DState) :
    (pollTarget d).validated = false ∧ (pollTarget d).typed = false ∧ (pollTarget d).lit = false ∧
      pollTarget d ≠ .send := by
  cases d <;> decide

/-- The read-and-reset of `DSTATE` hands the classification over to `MSEQ` (R62, R111). -/
theorem State.Inv.poll (h : s.Inv) (hm : s.mseq = .poll) : s.poll.Inv := by
  have hn := h.notify_rearmed (.inl hm)
  obtain ⟨hvalid, htyped, hlit, hsend⟩ := pollTarget_untested s.dstate
  exact h.takeOver (.inr rfl)
    { rearmed := fun he => by simpa [(pollTarget_eq_poll _).mp he] using hn
      cycle := fun he => by simpa [(pollTarget_eq_poll _).not.mp he] using hn
      receiver := h.rxEn_of_not_mismatch (by simp [hm])
      matched := fun he => h.address_matched (.inr ((pollTarget_matched _).mp he))
      mismatched := fun he => h.address_mismatched (.inl ((pollTarget_eq_mismatch _).mp he))
      validated := by simp [hvalid]
      typed := by simp [htyped]
      lit := by simp [hlit]
      built := fun he => absurd he hsend
      driver := h.sdseq_idle (by simp [hm]) }

/-- To the pace or the re-arming, as the parameter says: a matched cycle ends without an answer (R114, R115). -/
theorem State.Inv.discard (h : s.Inv) (hm : s.mseq.matched = true) (hl : s.mseq.lit = true) (hd : s.sdseq = .idle) :
    s.discard.Inv := by
  have hon := h.indicator_on (.inl hl)
  unfold State.discard
  split <;> exact h.gotoOnward (.inl hm) hd (lit := fun _ => hon)

theorem frameValid_of_crcOkOf (h : crcOkOf s.req (crc16 s.req.toList 6) = true) : s.frameValid := by
  simpa [crcOkOf, State.frameValid] using h

/-- The CRC test (R114): what passes it is a valid frame, what fails it is discarded. -/
theorem State.Inv.validateStep (h : s.Inv) (hm : s.mseq = .validate) : s.validateStep.Inv := by
  have hmatched : s.mseq.matched = true := by simp [hm, MSeq.matched]
  have hlit : s.mseq.lit = true := by simp [hm, MSeq.lit]
  have hd := h.sdseq_idle (by simp [hm])
  have hv : s.validate.Inv :=
    { h with
      crc_valid := by simp [State.validate_eq, hm, MSeq.validated]
      byte_bound := by simp [State.validate_eq]
      read_from_one := by simp [State.validate_eq, hm]
      send_bound := by simp [State.validate_eq] }
  unfold State.validateStep State.branchOnCrc
  split
  · rename_i hok
    exact hv.gotoOnward (.inl hmatched) hd (matched := fun _ => hmatched)
      (validated := fun _ => ⟨hok, frameValid_of_crcOkOf hok⟩) (lit := fun _ => h.indicator_on (.inl hlit))
  · have hq : ((s.validate.raise (.crcMismatch s.validate.req)).diag .crcMismatch).Inv := { hv with }
    exact hq.discard hmatched hlit hd

/-- The type test (R115): what passes it has a known type. -/
theorem State.Inv.decodeStep (h : s.Inv) (hm : s.mseq = .decode) : s.decodeStep.Inv := by
  have hmatched : s.mseq.matched = true := by simp [hm, MSeq.matched]
  have hlit : s.mseq.lit = true := by simp [hm, MSeq.lit]
  have hd := h.sdseq_idle (by simp [hm])
  have hv : s.decodeType.Inv := { h with type_known := by simp [State.decodeType, hm, MSeq.typed] }
  unfold State.decodeStep State.branchOnType
  split
  · have hq : (s.decodeType.raise (.unknownType s.decodeType.req[3])).Inv := { hv with }
    exact hq.discard hmatched hlit hd
  · rename_i hk
    exact hv.gotoOnward (.inl hmatched) hd (matched := fun _ => hmatched)
      (validated := fun _ => h.crc_valid (by simp [hm, MSeq.validated])) (typed := fun _ => ⟨rfl, hk⟩)
      (lit := fun _ => h.indicator_on (.inl hlit))

/-- The response of the frame and the value is built where it is due (R117). -/
theorem State.Inv.encodeStep (h : s.Inv) (hm : s.mseq = .encode) : s.encodeStep.Inv := by
  have hmatched : s.mseq.matched = true := by simp [hm, MSeq.matched]
  have hv : (s.encodeResponse s.req[0] s.value).Inv :=
    { h with
      response_built := fun _ => rfl
      byte_bound := by simp [State.encodeResponse_eq]
      read_from_one := by simp [State.encodeResponse_eq]
      send_bound := by simp [State.encodeResponse_eq] }
  exact hv.gotoOnward (.inl hmatched) (h.sdseq_idle (by simp [hm])) (matched := fun _ => hmatched)
    (validated := fun _ => h.crc_valid (by simp [hm, MSeq.validated]))
    (typed := fun _ => h.type_known (by simp [hm, MSeq.typed]))
    (lit := fun _ => h.indicator_on (.inl (by simp [hm, MSeq.lit]))) (built := fun _ => rfl)

/-- The pace changes nothing but where MAIN stands (R119). -/
theorem State.Inv.paceStep (h : s.Inv) (hm : s.mseq = .pace) : s.paceStep.Inv := by
  have hv : (s.delay .pace).Inv := { h with }
  exact hv.gotoOnward (.inr hm) (h.sdseq_idle (by simp [hm]))
    (lit := fun _ => h.indicator_on (.inl (by simp [hm, MSeq.lit])))

/-! ### The two byte loops -/

/-- The position of one of MAIN's three loops: before it (0) or in it (1). -/
theorem State.Inv.setSub (h : s.Inv) {k : Nat} (hm : s.mseq = .read ∨ s.mseq = .sample ∨ s.mseq = .send) (hk : k ≤ 1)
    (hd : k = 0 → s.sdseq = .idle) (hr : s.mseq = .read → k ≠ 0 → 1 ≤ s.byteIdx)
    (hs : s.mseq = .send → k ≠ 0 → s.byteIdx ≤ 7) : ({ s with sub := k } : State).Inv := by
  have hloop : s.mseq.matched = true ∧ s.mseq ≠ .indOn ∧ s.mseq.lastSub = 1 := by
    rcases hm with hm | hm | hm <;> simp [hm, MSeq.matched, MSeq.lastSub]
  obtain ⟨hmatched, hind, hlast⟩ := hloop
  obtain ⟨hcycle, hmis⟩ := not_rearmed_of_matched (.inl hmatched)
  exact
    { h with
      notify_rearmed := fun hr => absurd hr (not_rearmed_of_matched (s := { s with sub := k }) (.inl hmatched)).1
      notify_cycle := fun _ => h.notify_cycle hcycle
      rx_window := by simp [h.rxEn_of_not_mismatch hmis, hmis]
      address_mismatched := fun hm => h.address_mismatched (.inl (hm.resolve_right fun hm => hmis hm.1))
      indicator_on := fun hl => h.indicator_on (.inl (hl.resolve_right fun hm => hind hm.1))
      driver_called := fun hne => ⟨(h.driver_called hne).1, fun hk => hne (hd hk)⟩
      read_from_one := hr
      send_bound := hs
      sub_bound := hk.trans_eq hlast.symm }

/-- `BYTEIDX` bears on the invariant only inside the byte loops (R112, R118). -/
theorem State.Inv.setByteIdx (h : s.Inv) {k : Nat} (hk : k ≤ 8) (hr : s.mseq = .read → s.sub ≠ 0 → 1 ≤ k)
    (hs : s.mseq = .send → s.sub ≠ 0 → k ≤ 7) : ({ s with byteIdx := k } : State).Inv :=
  { h with byte_bound := hk, read_from_one := hr, send_bound := hs }

theorem State.Inv.beginRead (h : s.Inv) (hm : s.mseq = .read) : s.beginRead.Inv := by
  unfold State.beginRead
  split
  · have hb := h.setByteIdx (k := 1) (by omega) (by simp) (by simp)
    exact hb.setSub (k := 1) (.inl hm) le_rfl nofun (fun _ _ => le_rfl) (by simp)
  · exact h

/-- The start leaves MAIN inside the loop (R112). -/
theorem State.beginRead_sub (s : State) : s.beginRead.sub ≠ 0 := by
  unfold State.beginRead
  split <;> simp_all

theorem State.beginRead_frame (s : State) : ∃ k j, s.beginRead = { s with byteIdx := k, sub := j } := by
  unfold State.beginRead
  split
  · exact ⟨1, 1, rfl⟩
  · exact ⟨s.byteIdx, s.sub, rfl⟩

theorem State.beginRead_mseq (s : State) : s.beginRead.mseq = s.mseq := by
  obtain ⟨k, j, he⟩ := s.beginRead_frame
  rw [he]

/-- Passes of the reading loop never touch the address byte (R12, R112). -/
theorem State.Inv.readBytes (h : s.Inv) (hm : s.mseq = .read) (hs : s.sub ≠ 0) {n : Nat} (hn : s.byteIdx + n ≤ 8) :
    (s.readBytes n).Inv := by
  induction n generalizing s with
  | zero => exact h
  | succ n ih =>
    have h1 := h.read_from_one hm hs
    cases hq : s.rxq with
    | nil => rwa [s.readBytes_nil _ hq]
    | cons b q =>
      rw [s.readBytes_cons n b q hq]
      refine ih ?_ hm hs (by simp only; omega)
      have hreq : (s.req.setIfInBounds s.byteIdx b)[0] = s.req[0] :=
        Vector.getElem_setIfInBounds_ne (by omega) (by omega)
      exact
        { h with
          rx_empty := fun hx => by simp [h.rx_empty hx] at hq
          address_matched := fun hc => hreq.trans (h.address_matched hc)
          address_mismatched := fun hc => hreq.trans_ne (h.address_mismatched hc)
          crc_valid := by simp [hm, MSeq.validated]
          type_known := by simp [hm, MSeq.typed]
          response_built := by simp [hm]
          byte_bound := by simp only; omega
          read_from_one := fun _ _ => Nat.le_add_left 1 _
          send_bound := by simp [hm] }

theorem State.Inv.gotoIndOn (h : s.Inv) (hm : s.mseq = .read) : (s.goto .indOn).Inv := by
  have hmatched : s.mseq.matched = true := by simp [hm, MSeq.matched]
  exact h.gotoOnward (.inl hmatched) (h.sdseq_idle (by simp [hm])) (matched := fun _ => hmatched)

theorem State.Inv.readFrame (h : s.Inv) (hm : s.mseq = .read) : s.readFrame.Inv := by
  have hb := h.beginRead hm
  have hmb : s.beginRead.mseq = .read := s.beginRead_mseq.trans hm
  have hr := hb.readBytes hmb s.beginRead_sub (n := 8 - s.beginRead.byteIdx) (by have := hb.byte_bound; omega)
  have hmr : (s.beginRead.readBytes (8 - s.beginRead.byteIdx)).mseq = .read := by
    obtain ⟨r, q, k, he⟩ := s.beginRead.readBytes_frame (8 - s.beginRead.byteIdx)
    rw [he]; exact hmb
  unfold State.readFrame State.endRead
  split
  · exact hr.gotoIndOn hmr
  · exact hr

theorem State.Inv.readStmt (h : s.Inv) (hm : s.mseq = .read) : s.readStmt.Inv := by
  unfold State.readStmt
  split_ifs with hs hb
  · exact h.beginRead hm
  · exact h.gotoIndOn hm
  · exact h.readBytes hm hs (by omega)

theorem State.Inv.beginSend (h : s.Inv) (hm : s.mseq = .send) : s.beginSend.Inv := by
  unfold State.beginSend
  split
  · have hb := h.setByteIdx (k := 0) (by omega) (by simp [hm]) (by simp)
    exact hb.setSub (k := 1) (.inr (.inr hm)) le_rfl nofun (by simp [hm]) (by simp)
  · exact h

theorem State.beginSend_sub (s : State) : s.beginSend.sub ≠ 0 := by
  unfold State.beginSend
  split <;> simp_all

theorem State.beginSend_frame (s : State) : ∃ k j, s.beginSend = { s with byteIdx := k, sub := j } := by
  unfold State.beginSend
  split
  · exact ⟨0, 1, rfl⟩
  · exact ⟨s.byteIdx, s.sub, rfl⟩

theorem State.beginSend_mseq (s : State) : s.beginSend.mseq = s.mseq := by
  obtain ⟨k, j, he⟩ := s.beginSend_frame
  rw [he]

/-- Passes of the sending loop write the log and count (R118). -/
theorem State.Inv.sendBytes (h : s.Inv) (hm : s.mseq = .send) {n : Nat} (hn : s.byteIdx + n ≤ 7) :
    (s.sendBytes n).Inv := by
  have hb := h.setByteIdx (k := s.byteIdx + n) (by omega) (by simp [hm]) (fun _ _ => hn)
  rw [s.sendBytes_eq n]
  exact { hb with }

theorem State.Inv.gotoPace (h : s.Inv) (hm : s.mseq = .send) : (s.goto .pace).Inv :=
  h.gotoOnward (.inl (by simp [hm, MSeq.matched])) (h.sdseq_idle (by simp [hm]))
    (lit := fun _ => h.indicator_on (.inl (by simp [hm, MSeq.lit])))

theorem State.Inv.send (h : s.Inv) (hm : s.mseq = .send) : s.send.Inv := by
  have hb := h.beginSend hm
  have hmb : s.beginSend.mseq = .send := s.beginSend_mseq.trans hm
  have hle : s.beginSend.byteIdx ≤ 7 := hb.send_bound hmb s.beginSend_sub
  refine (hb.sendBytes hmb (n := 7 - s.beginSend.byteIdx) (by omega)).gotoPace ?_
  rw [State.sendBytes_eq]
  exact hmb

theorem State.Inv.sendStmt (h : s.Inv) (hm : s.mseq = .send) : s.sendStmt.Inv := by
  unfold State.sendStmt
  split_ifs with hs hb
  · exact h.beginSend hm
  · exact h.gotoPace hm
  · exact h.sendBytes hm (n := 1) (by omega)

/-! ### Operations given as a list of statements -/

/-- The statement at MAIN's position, for a position the operation has. -/
theorem oneStmt_getElem (stmts : List (State → State)) (s : State) (hs : s.sub < stmts.length) :
    oneStmt stmts s = stmts[s.sub] s := by
  have hk : min s.sub (stmts.length - 1) = s.sub := by omega
  exact oneStmt_eq stmts s _ _ (by rw [remaining, hk, List.drop_eq_getElem_cons hs])

/-- What remains of an operation is its next statement and, where that passes to another, what remains then. -/
theorem runStmts_eq_oneStmt (stmts : List (State → State)) (s : State) (hs : s.sub < stmts.length)
    (hn : s.sub + 1 < stmts.length → (oneStmt stmts s).sub = s.sub + 1) :
    runStmts stmts s =
      if s.sub + 1 < stmts.length then runStmts stmts (oneStmt stmts s) else oneStmt stmts s := by
  have hk : min s.sub (stmts.length - 1) = s.sub := by omega
  have hrun : runStmts stmts s = (stmts.drop (s.sub + 1)).foldl (fun t f => f t) (oneStmt stmts s) := by
    rw [oneStmt_getElem stmts s hs, runStmts, remaining, hk, List.drop_eq_getElem_cons hs, List.foldl_cons]
  rw [hrun]
  split_ifs with hl
  · have hk' : min (s.sub + 1) (stmts.length - 1) = s.sub + 1 := by omega
    rw [runStmts, remaining, hn hl, hk']
  · rw [List.drop_of_length_le (by omega), List.foldl_nil]

/-- An operation of which each statement keeps the invariant, and each but the last passes to the next, keeps it. -/
theorem State.Inv.runStmts {stmts : List (State → State)} {m : MSeq}
    (hone : ∀ s : State, s.Inv → s.mseq = m → (oneStmt stmts s).Inv)
    (hnext : ∀ s : State, s.mseq = m → s.sub + 1 < stmts.length →
      (oneStmt stmts s).mseq = m ∧ (oneStmt stmts s).sub = s.sub + 1)
    (h : s.Inv) (hm : s.mseq = m) (hs : s.sub < stmts.length) : (Machine.runStmts stmts s).Inv := by
  induction hk : stmts.length - s.sub generalizing s with
  | zero => omega
  | succ k ih =>
    rw [runStmts_eq_oneStmt stmts s hs fun hl => (hnext s hm hl).2]
    split
    · rename_i hl
      obtain ⟨hm', hs'⟩ := hnext s hm hl
      exact ih (hone s h hm) hm' (by omega) (by omega)
    · exact hone s h hm

/-! The two writes of a register (R113, R119): the write, and the transition. -/

theorem oneStmt_indicatorOn_first (hs : s.sub = 0) :
    oneStmt indicatorOnStmts s = { s with indicator := true, sub := s.sub + 1 } := by
  simp [oneStmt, remaining, indicatorOnStmts, hs, State.nextSub]

theorem oneStmt_indicatorOn_last (hs : s.sub ≠ 0) : oneStmt indicatorOnStmts s = s.goto .validate := by
  have hk : min s.sub 1 = 1 := by omega
  simp [oneStmt, remaining, indicatorOnStmts, hk]

theorem oneStmt_rearm_first (hs : s.sub = 0) :
    oneStmt rearmStmts s = { s with notifyEn := true, sub := s.sub + 1 } := by
  simp [oneStmt, remaining, rearmStmts, hs, State.nextSub]

theorem oneStmt_rearm_last (hs : s.sub ≠ 0) : oneStmt rearmStmts s = s.goto .poll := by
  have hk : min s.sub 1 = 1 := by omega
  simp [oneStmt, remaining, rearmStmts, hk]

/-- The first six statements of the mismatch path (R120): each passes to the next, the second puts the indicator out, the
third and fourth are the flush (R67), the sixth re-arms. -/
theorem oneStmt_mismatch_next (hs : s.sub < 6) :
    ∃ tr, oneStmt mismatchStmts s =
      { s with
        indicator := if s.sub = 1 then false else s.indicator
        rxEn := if s.sub = 2 then false else if s.sub = 3 then true else s.rxEn
        rxq := if s.sub = 2 then [] else s.rxq
        notifyEn := if s.sub = 5 then true else s.notifyEn
        sub := s.sub + 1
        trace := tr } := by
  refine ⟨(oneStmt mismatchStmts s).trace, ?_⟩
  interval_cases hk : s.sub <;>
    simp [oneStmt, remaining, mismatchStmts, hk, State.nextSub, State.raise, State.diag, State.log, State.rxOff,
      State.rxOn]

theorem oneStmt_mismatch_last (hs : 6 ≤ s.sub) : oneStmt mismatchStmts s = s.goto .poll := by
  simp [oneStmt, remaining, mismatchStmts, hs]

theorem State.Inv.indicatorOnStmt (h : s.Inv) (hm : s.mseq = .indOn) : (oneStmt indicatorOnStmts s).Inv := by
  have hmatched : s.mseq.matched = true := by simp [hm, MSeq.matched]
  by_cases hs : s.sub = 0
  · obtain ⟨hr, hx⟩ := not_rearmed_of_matched (.inl hmatched)
    rw [oneStmt_indicatorOn_first hs]
    exact
      { h with
        notify_rearmed := by simp [State.rearmed, hm]
        notify_cycle := fun _ => h.notify_cycle hr
        rx_window := by simp [h.rxEn_of_not_mismatch hx, hm]
        address_mismatched := fun hc => h.address_mismatched (.inl (hc.resolve_right fun he => hx he.1))
        indicator_on := fun _ => rfl
        driver_called := fun hd => absurd (h.sdseq_idle (by simp [hm])) hd
        read_from_one := by simp [hm]
        send_bound := by simp [hm]
        sub_bound := by simp [hm, hs, MSeq.lastSub] }
  · have hsub : s.sub = 1 := by
      have := h.sub_bound
      simp only [hm, MSeq.lastSub] at this
      omega
    rw [oneStmt_indicatorOn_last hs]
    exact h.gotoOnward (.inl hmatched) (h.sdseq_idle (by simp [hm])) (matched := fun _ => hmatched)
      (lit := fun _ => h.indicator_on (.inr ⟨hm, hsub⟩))

theorem State.Inv.rearmStmt (h : s.Inv) (hm : s.mseq = .rearm) : (oneStmt rearmStmts s).Inv := by
  have hd := h.sdseq_idle (by simp [hm])
  have hx := h.rxEn_of_not_mismatch (by simp [hm])
  by_cases hs : s.sub = 0
  · rw [oneStmt_rearm_first hs]
    exact
      { h with
        notify_rearmed := by simp [(h.notify_cycle (by simp [State.rearmed, hm, hs])).2]
        notify_cycle := by simp [State.rearmed, hm]
        rx_window := by simp [hx, hm]
        address_mismatched := fun hc => h.address_mismatched (.inl (hc.resolve_right (by simp [hm])))
        indicator_on := fun _ => h.indicator_on (.inl (by simp [hm, MSeq.lit]))
        driver_called := fun hne => absurd hd hne
        read_from_one := by simp [hm]
        send_bound := by simp [hm]
        sub_bound := by simp [hm, hs, MSeq.lastSub] }
  · rw [oneStmt_rearm_last hs]
    exact h.gotoPoll (.inr (.inl ⟨hm, by omega⟩)) hx hd

theorem State.Inv.mismatchStmt (h : s.Inv) (hm : s.mseq = .mismatch) : (oneStmt mismatchStmts s).Inv := by
  have hd := h.sdseq_idle (by simp [hm])
  have hx : s.rxEn = false ↔ s.sub = 3 := by simpa [hm] using h.rx_window
  by_cases hs : s.sub < 6
  · obtain ⟨hn, hidle⟩ := h.notify_cycle (by simp [State.rearmed, hm, hs])
    obtain ⟨tr, he⟩ := oneStmt_mismatch_next hs
    rw [he]
    exact
      { h with
        notify_rearmed := by simp [State.rearmed, hm, hn, hidle]; omega
        notify_cycle := by simp [State.rearmed, hm, hn, hidle]; omega
        rx_window := by simp only [hm, true_and]; split_ifs <;> simp_all
        rx_empty := by simp only; split_ifs <;> simp_all
        address_mismatched := fun _ => h.address_mismatched (.inr ⟨hm, hs⟩)
        indicator_on := by simp [hm, MSeq.lit]
        driver_called := fun hne => absurd hd hne
        read_from_one := by simp [hm]
        send_bound := by simp [hm]
        sub_bound := by simp only [hm, MSeq.lastSub]; omega }
  · rw [oneStmt_mismatch_last (by omega)]
    exact h.gotoPoll (.inr (.inr ⟨hm, by omega⟩)) (by simpa [show s.sub ≠ 3 by omega] using hx) hd

/-! Each of the three as a whole, from wherever MAIN stands in it. -/

theorem State.Inv.indicatorOn (h : s.Inv) (hm : s.mseq = .indOn) : (Machine.runStmts indicatorOnStmts s).Inv := by
  refine h.runStmts (fun _ h hm => h.indicatorOnStmt hm) (fun s hm hs => ?_) hm ?_
  · rw [oneStmt_indicatorOn_first (by simpa [indicatorOnStmts] using hs)]
    exact ⟨hm, rfl⟩
  · simpa [hm, MSeq.lastSub, indicatorOnStmts, Nat.lt_succ_iff] using h.sub_bound

theorem State.Inv.rearm (h : s.Inv) (hm : s.mseq = .rearm) : (Machine.runStmts rearmStmts s).Inv := by
  refine h.runStmts (fun _ h hm => h.rearmStmt hm) (fun s hm hs => ?_) hm ?_
  · rw [oneStmt_rearm_first (by simpa [rearmStmts] using hs)]
    exact ⟨hm, rfl⟩
  · simpa [hm, MSeq.lastSub, rearmStmts, Nat.lt_succ_iff] using h.sub_bound

theorem State.Inv.mismatch (h : s.Inv) (hm : s.mseq = .mismatch) : (Machine.runStmts mismatchStmts s).Inv := by
  refine h.runStmts (fun _ h hm => h.mismatchStmt hm) (fun s hm hs => ?_) hm ?_
  · have hs : s.sub + 1 < 7 := hs
    obtain ⟨tr, he⟩ := oneStmt_mismatch_next (s := s) (by omega)
    rw [he]
    exact ⟨hm, rfl⟩
  · simpa [hm, MSeq.lastSub, mismatchStmts, Nat.lt_succ_iff] using h.sub_bound

theorem State.Inv.paceRearm (h : s.Inv) (hm : s.mseq = .pace ∨ s.mseq = .rearm)
    (ht : execMainPaceRearm s = .next t) : t.Inv := by
  cases ht
  split
  · rename_i hr
    exact h.rearm hr
  · rename_i hr
    exact (h.paceStep (hm.resolve_right hr)).rearm rfl

end

end Sys2Proof.Machine

/-! ## The sampling keeps the invariant -/

namespace Sys2Proof.Machine

/-! ### The reads -/

/-- `BITIDX` is where the driver stands (R21): below forty inside a bit, forty when the stream is complete. -/
structure Acq.InRange (a : Acq) : Prop where
  bit : ∀ b, a.seq = .data b → if b = .asm then a.idx = 40 else a.idx < 40
  bound : a.idx ≤ 40

theorem Acq.InRange.of_no_bit {a : Acq} (hb : a.idx ≤ 40) (hq : ∀ b, a.seq ≠ .data b) : a.InRange :=
  ⟨fun b he => absurd he (hq b), hb⟩

theorem Acq.InRange.of_in_bit {a : Acq} (hi : a.idx < 40) (hq : a.seq ≠ .data .asm) : a.InRange :=
  ⟨fun b he => by rw [if_neg (by rintro rfl; exact hq he)]; exact hi, hi.le⟩

theorem Acq.InRange.of_stream {a : Acq} (hi : a.idx = 40) (hq : a.seq = .data .asm) : a.InRange :=
  ⟨fun b he => by rw [if_pos (by simpa [hq, eq_comm] using he)]; exact hi, hi.le⟩

theorem Acq.feed_inRange {a : Acq} (h : a.InRange) (lw l : Bool) : (a.feed lw l).InRange := by
  obtain ⟨q, i, bs, tr⟩ := a
  have hbound : i ≤ 40 := h.bound
  cases q with
  | prep p =>
    cases p with
    | p1 => cases l <;> cases lw <;> exact .of_no_bit hbound nofun
    | p2 => cases l <;> exact .of_no_bit hbound nofun
    | p3 =>
      cases l with
      | false => exact .of_in_bit (Nat.zero_lt_succ 39) nofun
      | true => exact .of_no_bit hbound nofun
  | data k =>
    cases k with
    | a => cases l <;> exact .of_in_bit (h.bit _ rfl) nofun
    | c => exact .of_in_bit (h.bit .c rfl) nofun
    | d =>
      simp only [Acq.feed]
      split_ifs with hl hi
      · exact h
      · exact .of_in_bit hi nofun
      · exact .of_stream rfl rfl
    | asm => exact h
  | idle => exact h
  | start k => exact h
  | done => exact h
  | fail => exact h

theorem Acq.feed_listening {a : Acq} (h : a.seq.listening = true) (lw l : Bool) :
    (a.feed lw l).seq.listening = true := by
  obtain ⟨q, i, b, tr⟩ := a
  cases q with
  | prep p => cases p <;> cases l <;> cases lw <;> rfl
  | data k =>
    cases k with
    | a => cases l <;> rfl
    | c => rfl
    | d =>
      simp only [Acq.feed]
      split_ifs <;> rfl
    | asm => rfl
  | idle => cases h
  | start k => cases h
  | done => cases h
  | fail => cases h

/-- What every read keeps holds after any number of answered reads. -/
theorem Acq.run_induct {P : Acq → Prop} {lw : Bool} (hf : ∀ a l, P a → P (a.feed lw l)) {a : Acq} (h : P a)
    (ls : List Bool) : P (Acq.run lw a ls).1 := by
  induction ls generalizing a with
  | nil => exact h
  | cons l ls ih =>
    unfold Acq.run
    split
    · exact ih (hf a l h)
    · exact h

section
variable {s t : State}

theorem State.polls_induct {P : Acq → Prop} (hf : ∀ lw a l, P a → P (a.feed lw l)) (h : P s.acq) : P s.polls.acq := by
  unfold State.polls
  split_ifs
  · exact Acq.run_induct (hf _) h _
  · exact hf _ _ _ h
  · exact h

/-! ### The driver -/

/-- The clauses of the invariant that speak of the driver alone: the pin as its phase says (R131), `BITIDX` (R21). -/
structure State.DriverOk (s : State) : Prop where
  pin_input : s.sdseq.listening = true → s.pinMode = .input ∧ s.pinOut = true
  pin_driven : ∀ k, s.sdseq = .start k → k ≠ .wake → s.pinMode = .output ∧ s.pinOut = decide (k ≠ .release)
  inRange : s.acq.InRange

theorem State.Inv.driverOk (h : s.Inv) : s.DriverOk := ⟨h.pin_input, h.pin_driven, h.bit_range, h.bit_bound⟩

/-- Between acquisitions, and with an acquisition's result there, nothing is asked of the pin. -/
theorem State.DriverOk.of_result (hb : s.bitIdx ≤ 40) (hq : s.sdseq = .idle ∨ s.sdseq = .done ∨ s.sdseq = .fail) :
    s.DriverOk where
  pin_input hl := by rcases hq with hq | hq | hq <;> simp [hq, SdSeq.listening] at hl
  pin_driven k hk := by simp [hk] at hq
  inRange := .of_no_bit hb fun b hd => by simp [show s.sdseq = .data b from hd] at hq

/-- A listening driver has left the pin an input, driven high before (R131). -/
theorem State.DriverOk.of_listening (hl : s.sdseq.listening = true) (hp : s.pinMode = .input ∧ s.pinOut = true)
    (ha : s.acq.InRange) : s.DriverOk where
  pin_input _ := hp
  pin_driven k hk := by simp [hk, SdSeq.listening] at hl
  inRange := ha

/-- A line of StartPulse leaves the pin as the next expects it (R131), having found it so. -/
theorem State.DriverOk.startStmt (h : s.DriverOk) {k : StartStmt} (hk : k ≠ .wake → s.sdseq = .start k) :
    (s.startStmt k).DriverOk := by
  have hb : s.bitIdx ≤ 40 := h.inRange.bound
  cases k with
  | wake => rw [s.startStmt_wake]; exact ⟨nofun, by simp, .of_no_bit hb nofun⟩
  | low =>
    obtain ⟨hmode, -⟩ := h.pin_driven .low (hk nofun) nofun
    rw [s.startStmt_low]
    exact ⟨nofun, by simp [hmode], .of_no_bit hb nofun⟩
  | release =>
    obtain ⟨hmode, -⟩ := h.pin_driven .release (hk nofun) nofun
    rw [s.startStmt_release]
    exact ⟨nofun, by simp [hmode], .of_no_bit hb nofun⟩
  | input =>
    obtain ⟨-, hhigh⟩ := h.pin_driven .input (hk nofun) nofun
    rw [s.startStmt_input]
    exact .of_listening rfl ⟨rfl, hhigh⟩ (.of_no_bit hb nofun)

/-- StartPulse, from wherever the driver stands in it, ends with the driver listening (R131, R137). -/
theorem State.DriverOk.startPulse (h : s.DriverOk) :
    s.startPulse.DriverOk ∧
      (s.startPulse.sdseq.listening = true ∨ s.startPulse.sdseq = .done ∨ s.startPulse.sdseq = .fail) := by
  have fromInput : ∀ {u : State}, u.DriverOk → u.sdseq = .start .input → (u.startStmt .input).DriverOk :=
    fun hu hq => hu.startStmt fun _ => hq
  have fromRelease : ∀ {u : State}, u.DriverOk → u.sdseq = .start .release →
      ((u.startStmt .release).startStmt .input).DriverOk := fun hu hq => fromInput (hu.startStmt fun _ => hq) rfl
  have fromLow : ∀ {u : State}, u.DriverOk → u.sdseq = .start .low →
      (((u.startStmt .low).startStmt .release).startStmt .input).DriverOk :=
    fun hu hq => fromRelease (hu.startStmt fun _ => hq) rfl
  have fromWake : ((((s.startStmt .wake).startStmt .low).startStmt .release).startStmt .input).DriverOk :=
    fromLow (h.startStmt fun hk => absurd rfl hk) rfl
  unfold State.startPulse
  cases hq : s.sdseq with
  | idle => exact ⟨fromWake, .inl rfl⟩
  | start k =>
    cases k with
    | wake => exact ⟨fromWake, .inl rfl⟩
    | low => exact ⟨fromLow h hq, .inl rfl⟩
    | release => exact ⟨fromRelease h hq, .inl rfl⟩
    | input => exact ⟨fromInput h hq, .inl rfl⟩
  | prep p => exact ⟨h, .inl (by simp [hq, SdSeq.listening])⟩
  | data b => exact ⟨h, .inl (by simp [hq, SdSeq.listening])⟩
  | done => exact ⟨h, .inr (.inl hq)⟩
  | fail => exact ⟨h, .inr (.inr hq)⟩

/-- Reads leave the pin alone, and a listening driver listening (R131, R132, R133). -/
theorem State.DriverOk.read (h : s.DriverOk) (hl : s.sdseq.listening = true)
    (hp : t.pinMode = s.pinMode ∧ t.pinOut = s.pinOut) (hq : t.sdseq.listening = true) (hr : t.acq.InRange) :
    t.DriverOk :=
  .of_listening hq (by rw [hp.1, hp.2]; exact h.pin_input hl) hr

theorem State.polls_pin (s : State) : s.polls.pinMode = s.pinMode ∧ s.polls.pinOut = s.pinOut := by
  obtain ⟨q, i, b, tr, pq, k, he⟩ := s.polls_frame
  simp [he]

theorem State.pollOnce_pin (s : State) : s.pollOnce.pinMode = s.pinMode ∧ s.pollOnce.pinOut = s.pinOut := by
  obtain ⟨q, i, b, tr, pq, k, he⟩ := s.pollOnce_frame
  simp [he]

theorem State.DriverOk.pollOnce (h : s.DriverOk) (hl : s.sdseq.listening = true) : s.pollOnce.DriverOk :=
  h.read hl s.pollOnce_pin (Acq.feed_listening (a := s.acq) hl _ _) (Acq.feed_inRange h.inRange _ _)

theorem State.DriverOk.polls (h : s.DriverOk) (hl : s.sdseq.listening = true) :
    s.polls.DriverOk ∧ s.polls.sdseq.listening = true := by
  have hq : s.polls.acq.seq.listening = true :=
    State.polls_induct (P := fun a => a.seq.listening = true) (fun lw _ l ha => Acq.feed_listening ha lw l) hl
  exact ⟨h.read hl s.polls_pin hq (State.polls_induct (fun lw _ l ha => Acq.feed_inRange ha lw l) h.inRange), hq⟩

/-- The assembly ends with the result there, whatever the checksum says (R136). -/
theorem State.finishStream_sdseq (s : State) : s.finishStream.sdseq = .done ∨ s.finishStream.sdseq = .fail := by
  unfold State.finishStream State.softFail
  split
  · exact .inl rfl
  · exact .inr rfl

theorem State.finishStream_frame (s : State) :
    ∃ q h tm c ok tr,
      s.finishStream = { s with sdseq := q, hum := h, tmp := tm, chk := c, chkOk := ok, trace := tr } := by
  unfold State.finishStream State.softFail
  split <;> exact ⟨_, _, _, _, _, _, rfl⟩

theorem State.DriverOk.finishStream (h : s.DriverOk) : s.finishStream.DriverOk := by
  refine .of_result ?_ (.inr s.finishStream_sdseq)
  obtain ⟨q, hu, tm, c, ok, tr, he⟩ := s.finishStream_frame
  rw [he]
  exact h.inRange.bound

theorem State.DriverOk.sdIdle (h : s.DriverOk) : (s.sdGoto .idle).DriverOk := .of_result h.inRange.bound (.inl rfl)

theorem State.DriverOk.acquireReturn (h : s.DriverOk) : s.acquireReturn.DriverOk := by
  unfold State.acquireReturn
  split
  · exact h.finishStream.sdIdle
  · exact h.sdIdle
  · exact h.sdIdle
  all_goals exact h

/-- An acquisition, as far as the sensor's answers reach, leaves the driver as its phase says (R130). -/
theorem State.DriverOk.acquire (h : s.DriverOk) : s.acquire.DriverOk := by
  obtain ⟨hp, hl⟩ := h.startPulse
  unfold State.acquire
  rcases hl with hl | hl | hl
  · exact (hp.polls hl).1.acquireReturn
  · simpa [State.polls, hl, SdSeq.reads] using hp.acquireReturn
  · simpa [State.polls, hl, SdSeq.reads] using hp.acquireReturn

theorem State.DriverOk.sdStmt (h : s.DriverOk) : s.sdStmt.DriverOk := by
  unfold State.sdStmt
  cases hq : s.sdseq with
  | idle => exact ⟨nofun, by simp, .of_no_bit h.inRange.bound nofun⟩
  | start k => exact h.startStmt fun _ => hq
  | prep p => exact h.pollOnce (by simp [hq, SdSeq.listening])
  | data b =>
    have hl : s.sdseq.listening = true := by simp [hq, SdSeq.listening]
    cases b with
    | a => exact h.pollOnce hl
    | c => exact h.pollOnce hl
    | d => exact h.pollOnce hl
    | asm => exact h.finishStream
  | done => exact h.sdIdle
  | fail => exact h.sdIdle

theorem State.DriverOk.keepReading (h : s.DriverOk) (ty : ReqType) : (s.keepReading ty).DriverOk := by
  obtain ⟨v, tr, he⟩ := s.keepReading_frame ty
  rw [he]
  exact { h with inRange := { h.inRange with } }

/-! ### The engine -/

/-- The driver is as its phase says, `SMPIDX` is in its range, and a pass in progress has an element to keep (R21,
R150). -/
structure State.EngineOk (s : State) : Prop where
  driver : s.DriverOk
  bound : s.smpIdx ≤ 9
  open_pass : s.sdseq ≠ .idle → s.smpIdx < 9

theorem State.Inv.engineOk (h : s.Inv) : s.EngineOk := ⟨h.driverOk, h.sample_bound, h.sample_open⟩

/-- `t` differs from `s` only in what the driver may write (R130). -/
def State.DriverWrites (s t : State) : Prop :=
  t = { s with
    sdseq := t.sdseq, bitIdx := t.bitIdx, sbit := t.sbit, hum := t.hum, tmp := t.tmp, chk := t.chk, chkOk := t.chkOk
    pinMode := t.pinMode, pinOut := t.pinOut, trace := t.trace, pinq := t.pinq, tick := t.tick }

/-- `t` differs from `s` only in what the driver and the engine's loop may write (R130, R150). -/
def State.SamplingWrites (s t : State) : Prop :=
  t = { s with
    sdseq := t.sdseq, bitIdx := t.bitIdx, sbit := t.sbit, hum := t.hum, tmp := t.tmp, chk := t.chk, chkOk := t.chkOk
    pinMode := t.pinMode, pinOut := t.pinOut, trace := t.trace, pinq := t.pinq, tick := t.tick
    sample := t.sample, smpIdx := t.smpIdx }

/-- Inside `M_SAMPLE`'s loop the rest of the invariant does not depend on what the engine writes. -/
theorem State.Inv.of_samplingWrites (h : s.Inv) (hm : s.mseq = .sample) (hs : s.sub ≠ 0) (hw : s.SamplingWrites t)
    (ht : t.EngineOk) : t.Inv := by
  obtain ⟨⟨hin, hdriven, hbit, hbits⟩, hbound, hopen⟩ := ht
  rw [hw]
  exact
    { h with
      driver_called := fun _ => ⟨hm, hs⟩
      pin_input := hin
      pin_driven := hdriven
      bit_range := hbit
      bit_bound := hbits
      sample_bound := hbound
      sample_open := hopen }

theorem State.DriverWrites.sampling (h : s.DriverWrites t) : s.SamplingWrites t := by
  unfold State.DriverWrites at h
  exact h.trans (by rw [h])

theorem State.SamplingWrites.trans {u : State} (h : s.SamplingWrites t) (h' : t.SamplingWrites u) :
    s.SamplingWrites u := by
  unfold State.SamplingWrites at *
  exact h'.trans (by rw [h])

theorem State.passes_writes (n : Nat) (ty : ReqType) (s : State) : s.SamplingWrites (s.passes n ty) := by
  obtain ⟨q, i, b, h, tm, c, ok, m, o, tr, pq, k, v, j, he⟩ := s.passes_frame n ty
  unfold State.SamplingWrites
  rw [he]

theorem State.acquire_smpIdx (s : State) : s.acquire.smpIdx = s.smpIdx := by
  obtain ⟨q, i, b, h, tm, c, ok, m, o, tr, pq, k, he⟩ := s.acquire_frame
  rw [he]

theorem State.keepReading_sdseq (s : State) (ty : ReqType) :
    (s.keepReading ty).sdseq = s.sdseq ∧ (s.keepReading ty).smpIdx = s.smpIdx + 1 := by
  obtain ⟨v, tr, he⟩ := s.keepReading_frame ty
  simp [he]

theorem State.EngineOk.keepReading (h : s.DriverOk) (hi : s.sdseq = .idle) (hn : s.smpIdx < 9) (ty : ReqType) :
    (s.keepReading ty).EngineOk := by
  obtain ⟨hq, hk⟩ := s.keepReading_sdseq ty
  exact ⟨h.keepReading ty, by omega, by simp [hq, hi]⟩

theorem State.EngineOk.passes (h : s.EngineOk) {n : Nat} (hn : s.smpIdx + n ≤ 9) (ty : ReqType) :
    (s.passes n ty).EngineOk := by
  induction n generalizing s with
  | zero => exact h
  | succ n ih =>
    have ha := h.driver.acquire
    have hk : s.acquire.smpIdx < 9 := by rw [s.acquire_smpIdx]; omega
    by_cases hi : s.acquire.sdseq = .idle
    · rw [s.passes_succ_idle n ty hi]
      refine ih (.keepReading ha hi hk ty) ?_
      rw [(s.acquire.keepReading_sdseq ty).2, s.acquire_smpIdx]
      omega
    · rw [s.passes_succ_waits n ty hi]
      exact ⟨ha, hk.le, fun _ => hk⟩

/-! ### `M_SAMPLE` -/

theorem State.beginSample_sub (s : State) : s.beginSample.sub ≠ 0 := by
  unfold State.beginSample
  split <;> simp_all

theorem State.beginSample_frame (s : State) : ∃ k j, s.beginSample = { s with smpIdx := k, sub := j } := by
  unfold State.beginSample
  split
  · exact ⟨0, 1, rfl⟩
  · exact ⟨s.smpIdx, s.sub, rfl⟩

theorem State.beginSample_mseq (s : State) : s.beginSample.mseq = s.mseq := by
  obtain ⟨k, j, he⟩ := s.beginSample_frame
  rw [he]

theorem State.Inv.beginSample (h : s.Inv) (hm : s.mseq = .sample) : s.beginSample.Inv := by
  unfold State.beginSample
  split
  · rename_i hs
    have hd := h.sdseq_idle (by simp [hs])
    have hb : ({ s with smpIdx := 0 } : State).Inv :=
      { h with sample_bound := Nat.zero_le _, sample_open := fun _ => Nat.zero_lt_succ 8 }
    exact hb.setSub (k := 1) (.inr (.inl hm)) le_rfl nofun (by simp [hm]) (by simp [hm])
  · exact h

/-- The sort and the median end the operation with the driver at rest (R151). -/
theorem State.Inv.takeMedian (h : s.Inv) (hm : s.mseq = .sample) (hd : s.sdseq = .idle) : s.takeMedian.Inv := by
  have hv : ({ s with sample := sortSample s.sample, value := (sortSample s.sample)[4] } : State).Inv :=
    { h with response_built := by simp [hm] }
  exact hv.setSub (k := 0) (.inr (.inl hm)) (Nat.zero_le 1) (fun _ => hd) (by simp) (by simp)

theorem State.sampled_iff (s : State) : s.sampled = true ↔ 9 ≤ s.smpIdx ∧ s.sdseq = .idle := by
  rw [State.sampled]
  exact decide_eq_true_iff

/-- A sampling, as far as the sensor's answers reach (R150, R151). -/
theorem State.Inv.sampleMedian (h : s.Inv) (hm : s.mseq = .sample) (ty : ReqType) :
    (s.sampleMedian ty).Inv ∧ (s.sampleMedian ty).mseq = .sample := by
  have hb := h.beginSample hm
  have hmb : s.beginSample.mseq = .sample := s.beginSample_mseq.trans hm
  have hw := s.beginSample.passes_writes (sampleCount - s.beginSample.smpIdx) ty
  have hn : s.beginSample.smpIdx + (sampleCount - s.beginSample.smpIdx) ≤ 9 := by
    have := hb.sample_bound
    simp only [sampleCount]
    omega
  have hp := hb.of_samplingWrites hmb s.beginSample_sub hw (hb.engineOk.passes hn ty)
  have hmp : (s.beginSample.passes (sampleCount - s.beginSample.smpIdx) ty).mseq = .sample := by rw [hw]; exact hmb
  unfold State.sampleMedian State.endSample
  split
  · rename_i hs
    exact ⟨hp.takeMedian hmp ((State.sampled_iff _).mp hs).2, hmp⟩
  · exact ⟨hp, hmp⟩

/-- MAIN leaves `M_SAMPLE` with what the two tests established still there (R116, R122). -/
theorem State.Inv.leaveSample (h : s.Inv) (hm : s.mseq = .sample) : s.leaveSample.Inv := by
  have hmatched : s.mseq.matched = true := by simp [hm, MSeq.matched]
  unfold State.leaveSample
  split
  · rename_i hs
    exact h.gotoOnward (.inl hmatched) (h.sdseq_idle (by simp [hs])) (matched := fun _ => hmatched)
      (validated := fun _ => h.crc_valid (by simp [hm, MSeq.validated]))
      (typed := fun _ => h.type_known (by simp [hm, MSeq.typed]))
      (lit := fun _ => h.indicator_on (.inl (by simp [hm, MSeq.lit])))
  · exact h

theorem State.Inv.sampleStep (h : s.Inv) (hm : s.mseq = .sample) : s.sampleStep.Inv := by
  obtain ⟨hv, hmv⟩ := h.sampleMedian hm s.rtype
  exact hv.leaveSample hmv

theorem State.sdStmt_writes (s : State) : s.DriverWrites s.sdStmt := by
  have hpoll : s.DriverWrites s.pollOnce := by
    obtain ⟨q, i, b, tr, pq, k, he⟩ := s.pollOnce_frame
    rw [State.DriverWrites, he]
  unfold State.sdStmt
  cases s.sdseq with
  | idle => rfl
  | start k => cases k <;> rfl
  | prep p => exact hpoll
  | data b =>
    cases b with
    | a => exact hpoll
    | c => exact hpoll
    | d => exact hpoll
    | asm =>
      obtain ⟨q, h, tm, c, ok, tr, he⟩ := s.finishStream_frame
      simp only [State.DriverWrites, he]
  | done => rfl
  | fail => rfl

/-- One statement inside the loop: the driver's, and the end of the pass with the driver's last (R55, R150). -/
theorem State.seStmt_cases (s : State) (ty : ReqType) (hs : s.sub ≠ 0) (hn : s.sampled = false) :
    (s.seStmt ty = s.sdStmt.keepReading ty ∧ (s.sdseq = .done ∨ s.sdseq = .fail)) ∨
      (s.seStmt ty = s.sdStmt ∧ s.sdseq ≠ .done ∧ s.sdseq ≠ .fail) := by
  cases hq : s.sdseq <;> simp [State.seStmt, hs, hn, hq]

theorem State.keepReading_writes (s : State) (ty : ReqType) : s.SamplingWrites (s.keepReading ty) := by
  obtain ⟨v, tr, he⟩ := s.keepReading_frame ty
  rw [State.SamplingWrites, he]

theorem State.seStmt_writes (s : State) (ty : ReqType) (hs : s.sub ≠ 0) (hn : s.sampled = false) :
    s.SamplingWrites (s.seStmt ty) := by
  rcases s.seStmt_cases ty hs hn with ⟨he, -⟩ | ⟨he, -⟩
  · rw [he]; exact s.sdStmt_writes.sampling.trans (s.sdStmt.keepReading_writes ty)
  · rw [he]; exact s.sdStmt_writes.sampling

theorem State.sdStmt_of_result (s : State) (hq : s.sdseq = .done ∨ s.sdseq = .fail) : s.sdStmt.sdseq = .idle := by
  rcases hq with hq | hq <;> simp [State.sdStmt, hq]

theorem State.sdStmt_smpIdx (s : State) : s.sdStmt.smpIdx = s.smpIdx := by rw [s.sdStmt_writes]

theorem State.Inv.seStmt (h : s.Inv) (hm : s.mseq = .sample) (ty : ReqType) :
    (s.seStmt ty).Inv ∧ (s.seStmt ty).mseq = .sample := by
  by_cases hs : s.sub = 0
  · rw [show s.seStmt ty = s.beginSample by simp [State.seStmt, hs]]
    exact ⟨h.beginSample hm, s.beginSample_mseq.trans hm⟩
  cases hn : s.sampled with
  | true =>
    rw [show s.seStmt ty = s.takeMedian by simp [State.seStmt, hs, hn]]
    exact ⟨h.takeMedian hm (s.sampled_iff.mp hn).2, hm⟩
  | false =>
    have hw := s.seStmt_writes ty hs hn
    have hk : s.smpIdx < 9 := by
      by_cases hq : s.sdseq = .idle
      · have hnot : ¬ s.sampled = true := by simp [hn]
        simpa [s.sampled_iff, hq] using hnot
      · exact h.sample_open hq
    refine ⟨h.of_samplingWrites hm hs hw ?_, by rw [hw]; exact hm⟩
    have hd := h.driverOk.sdStmt
    rcases s.seStmt_cases ty hs hn with ⟨he, hq⟩ | ⟨he, -⟩
    · rw [he]
      exact .keepReading hd (s.sdStmt_of_result hq) (by rwa [s.sdStmt_smpIdx]) ty
    · rw [he]
      exact ⟨hd, by rw [s.sdStmt_smpIdx]; exact hk.le, fun _ => by rwa [s.sdStmt_smpIdx]⟩

theorem State.Inv.sampleStmt (h : s.Inv) (hm : s.mseq = .sample) : s.sampleStmt.Inv := by
  obtain ⟨hv, hmv⟩ := h.seStmt hm s.rtype
  exact hv.leaveSample hmv

end

end Sys2Proof.Machine

/-! ## Every step keeps the invariant -/

namespace Sys2Proof.Machine

section
variable {s t : State}

/-! ### MAIN's turns -/

theorem State.Inv.mainStmt (h : s.Inv) (ht : mainStmt s = .next t) : t.Inv := by
  unfold Machine.mainStmt at ht
  cases hm : s.mseq with rw [hm] at ht
  | poll => cases ht; exact h.poll hm
  | read => cases ht; exact h.readStmt hm
  | indOn => cases ht; exact h.indicatorOnStmt hm
  | validate => cases ht; exact h.validateStep hm
  | decode => cases ht; exact h.decodeStep hm
  | sample =>
    dsimp only at ht
    split at ht
    · cases ht
    · cases ht; exact h.sampleStmt hm
  | encode => cases ht; exact h.encodeStep hm
  | send => cases ht; exact h.sendStmt hm
  | pace => cases ht; exact h.paceStep hm
  | rearm => cases ht; exact h.rearmStmt hm
  | mismatch => cases ht; exact h.mismatchStmt hm

theorem State.Inv.mainOp (h : s.Inv) (ht : mainOp s = .next t) : t.Inv := by
  unfold Machine.mainOp at ht
  cases hm : s.mseq with rw [hm] at ht
  | poll => cases ht; exact h.poll hm
  | read => cases ht; exact h.readFrame hm
  | indOn => cases ht; exact h.indicatorOn hm
  | validate => cases ht; exact h.validateStep hm
  | decode => cases ht; exact h.decodeStep hm
  | sample =>
    dsimp only [execMainSampleStep] at ht
    split at ht
    · cases ht
    · cases ht; exact h.sampleStep hm
  | encode => cases ht; exact h.encodeStep hm
  | send => cases ht; exact h.send hm
  | pace => exact h.paceRearm (.inl hm) ht
  | rearm => exact h.paceRearm (.inr hm) ht
  | mismatch => cases ht; exact h.mismatch hm

/-! ### Encoded rows -/

/-- What each of MAIN's operations keeps, a cycle keeps. -/
theorem cycle_induct {P : State → Prop} (hop : ∀ s t, P s → mainOp s = .next t → P t) {n : Nat} (h : P s)
    (ht : cycle n s = .next t) : P t := by
  induction n generalizing s with
  | zero => cases ht; exact h
  | succ n ih =>
    unfold cycle at ht
    split at ht
    · rename_i u hu
      have hu := hop s u h hu
      split at ht
      · cases ht; exact hu
      · exact ih hu ht
    · cases ht
    · cases ht

theorem State.Inv.takeFrame {bytes : List Byte} (h : s.Inv) (ht : takeFrame bytes s = .next t) : t.Inv := by
  cases hr : s.ready with
  | true =>
    rw [takeFrame_ready bytes s hr] at ht
    obtain ⟨-, -, hn, hx⟩ := s.ready_iff.mp hr
    have hq : ({ s with rxq := bytes ++ s.rxq } : State).Inv := { h with rx_empty := by simp [hx] }
    exact cycle_induct (fun _ _ h => h.mainOp) (hq.takeNotification hn) ht
  | false =>
    rw [takeFrame_waits bytes s hr] at ht
    cases ht
    exact h.masterSendAll bytes

theorem State.Inv.rspValue (h : s.Inv) (hm : s.mseq = .encode) (ht : execRspValue s.req[0] s.value s = .next t) :
    t.Inv := by
  cases ht
  exact (h.encodeStep hm).send rfl

/-- The bits a stream row lays in `SBIT` are used where the sampling has its forty bits (R134 to R136). -/
theorem State.Inv.strData {hu te : Word} {ck : Byte} (h : s.Inv) (hd : s.sdseq = .data .asm)
    (ht : execStrData hu te ck s = .next t) : t.Inv := by
  cases ht
  obtain ⟨hm, hs⟩ := h.driver_called (by simp [hd])
  have hk := h.sample_open (by simp [hd])
  have hb : ({ s with sbit := streamOf hu te ck, bitIdx := 40 } : State).Inv :=
    { h with bit_range := by simp [hd], bit_bound := le_rfl }
  obtain ⟨q, h1, t1, c1, ok, tr, he⟩ :=
    State.finishStream_frame { s with sbit := streamOf hu te ck, bitIdx := 40 }
  refine hb.of_samplingWrites hm hs ?_ ⟨hb.driverOk.finishStream, ?_, fun _ => ?_⟩
  · rw [State.SamplingWrites, he]
  · rw [he]; exact hk.le
  · rw [he]; exact hk

/-! ### What a turn runs -/

/-- What decodes in the receive queue is a request row (R77). -/
theorem decodeRequest_format (slave : Byte) (bytes rest : List Byte) (i : Instr)
    (h : decodeRequest slave bytes = .ok i rest) : formatOf i = some .req := by
  have hrow : ∀ a r1 r2 ty r4 r5 lo hi : Byte, formatOf (requestRow a r1 r2 ty r4 r5 lo hi) = some .req := by
    intro a r1 r2 ty r4 r5 lo hi
    unfold requestRow
    split
    · split <;> rfl
    · rfl
  unfold decodeRequest at h
  split at h
  · cases h
  · split at h
    · split at h
      · cases h; exact hrow ..
      · cases h
    · cases h; rfl

/-- What decodes from the sensor is a stream row (R77). -/
theorem decodeStream_row (bytes rest : List Byte) (i : Instr) (h : decodeStream bytes = .ok i rest) :
    ∃ hu te ck, i = .strData hu te ck := by
  unfold decodeStream at h
  split at h
  · cases h; exact ⟨_, _, _, rfl⟩
  · cases h

/-- A request row is the taking of its frame (R77). -/
theorem exec_of_request (i : Instr) (h : formatOf i = some .req) (s : State) : exec i s = takeFrame (encode i) s := by
  cases i <;> simp [formatOf] at h <;> rfl

/-- What `fetch` finds: a request at the head of a ready core's queue, a stream, a response that is due, or MAIN's own
operation. -/
theorem fetch_cases (s : State) :
    (s.ready = true ∧ ∃ i rest, formatOf i = some .req ∧ fetch s = (i, { s with rxq := rest })) ∨
    (s.mseq = .sample ∧ s.sdseq = .data .asm ∧ ∃ h t c, fetch s = (.strData h t c, s)) ∨
    (s.mseq = .encode ∧ fetch s = (.rspValue s.req[0] s.value, s)) ∨
    fetch s = (selected s, s) := by
  unfold fetch
  cases hm : s.mseq with
  | poll =>
    dsimp only
    split
    · rename_i hr
      split
      · rename_i i rest hd
        exact .inl ⟨hr, i, rest, decodeRequest_format _ _ _ _ hd, rfl⟩
      · exact .inr (.inr (.inr rfl))
    · exact .inr (.inr (.inr rfl))
  | sample =>
    dsimp only
    split
    · rename_i hd
      split
      · rename_i i rest hdec
        obtain ⟨h, t, c, rfl⟩ := decodeStream_row (wireBytes 5 s.sbit.toNat) rest i hdec
        exact .inr (.inl ⟨rfl, hd, h, t, c, rfl⟩)
      · exact .inr (.inr (.inr rfl))
    · exact .inr (.inr (.inr rfl))
  | encode => exact .inr (.inr (.inl ⟨rfl, rfl⟩))
  | read => exact .inr (.inr (.inr rfl))
  | indOn => exact .inr (.inr (.inr rfl))
  | validate => exact .inr (.inr (.inr rfl))
  | decode => exact .inr (.inr (.inr rfl))
  | send => exact .inr (.inr (.inr rfl))
  | pace => exact .inr (.inr (.inr rfl))
  | rearm => exact .inr (.inr (.inr rfl))
  | mismatch => exact .inr (.inr (.inr rfl))

theorem State.Inv.selected (h : s.Inv) (ht : exec (selected s) s = .next t) : t.Inv := by
  rw [exec_selected] at ht
  exact h.mainOp ht

theorem State.Inv.transact (h : s.Inv) (ht : exec (fetch s).1 (fetch s).2 = .next t) : t.Inv := by
  rcases fetch_cases s with ⟨hr, i, rest, hi, he⟩ | ⟨-, hd, hu, te, ck, he⟩ | ⟨hm, he⟩ | he
  · rw [he, exec_of_request i hi] at ht
    have hq : ({ s with rxq := rest } : State).Inv := { h with rx_empty := by simp [(s.ready_iff.mp hr).2.2.2] }
    exact hq.takeFrame ht
  · rw [he] at ht; exact h.strData hd ht
  · rw [he] at ht; exact h.rspValue hm ht
  · rw [he] at ht; exact h.selected ht

theorem State.Inv.act (h : s.Inv) (u : Turn) (ht : act u s = .next t) : t.Inv := by
  cases u with
  | master b => cases ht; exact h.masterSend b
  | handler => exact h.dispNotify ht
  | stmt => exact h.mainStmt ht
  | main => exact h.selected ht
  | transact => exact h.transact ht
  | reset => cases ht; exact s.resetEvent_inv

end

/-- Settles O46: whatever turn is due, its agent keeps the invariant. -/
theorem stepKeepsTheInvariant : Obligations.StepKeepsTheInvariant :=
  fun _ _ h ht => h.nextTurn.act _ ht

end Sys2Proof.Machine

/-! ## What no step writes -/

namespace Sys2Proof.Machine

section
variable {s t : State}

/-! ### The configuration (R25, R34) -/

/-- `SLAVE_ADDR` and the parameters. -/
def State.configuration (s : State) : Byte × Config := (s.slaveAddr, s.cfg)

/-- What each statement of an operation keeps, the operation keeps. -/
theorem runStmts_induct {P : State → Prop} {stmts : List (State → State)} (hf : ∀ f ∈ stmts, ∀ s, P s → P (f s))
    (h : P s) : P (runStmts stmts s) :=
  List.foldlRecOn _ _ h fun t ht f hm => hf f (List.mem_of_mem_drop hm) t ht

theorem oneStmt_induct {P : State → Prop} {stmts : List (State → State)} (hf : ∀ f ∈ stmts, ∀ s, P s → P (f s))
    (h : P s) : P (oneStmt stmts s) := by
  unfold oneStmt
  cases hr : remaining stmts s.sub with
  | nil => exact h
  | cons f fs =>
    have hmem : f ∈ remaining stmts s.sub := by simp [hr]
    exact hf f (List.mem_of_mem_drop hmem) s h

theorem State.readFrame_configuration (s : State) : s.readFrame.configuration = s.configuration := by
  have hb : s.beginRead.configuration = s.configuration := by
    obtain ⟨k, j, he⟩ := s.beginRead_frame
    rw [he]; rfl
  obtain ⟨r, q, k, he⟩ := s.beginRead.readBytes_frame (8 - s.beginRead.byteIdx)
  unfold State.readFrame State.endRead
  rw [he]
  split <;> exact hb

theorem State.send_configuration (s : State) : s.send.configuration = s.configuration := by
  have hb : s.beginSend.configuration = s.configuration := by
    obtain ⟨k, j, he⟩ := s.beginSend_frame
    rw [he]; rfl
  unfold State.send
  rw [State.sendBytes_eq]
  exact hb

theorem State.SamplingWrites.configuration (h : s.SamplingWrites t) : t.configuration = s.configuration := by
  rw [h]; rfl

theorem State.sampleMedian_configuration (s : State) (ty : ReqType) :
    (s.sampleMedian ty).configuration = s.configuration := by
  have hb : s.beginSample.configuration = s.configuration := by
    obtain ⟨k, j, he⟩ := s.beginSample_frame
    rw [he]; rfl
  have hp := (s.beginSample.passes_writes (sampleCount - s.beginSample.smpIdx) ty).configuration.trans hb
  unfold State.sampleMedian State.endSample
  split <;> exact hp

/-! Each statement of the three operations given as lists. -/

theorem indicatorOnStmts_configuration : ∀ f ∈ indicatorOnStmts, ∀ s : State, (f s).configuration = s.configuration := by
  simp [indicatorOnStmts, State.configuration]

theorem rearmStmts_configuration : ∀ f ∈ rearmStmts, ∀ s : State, (f s).configuration = s.configuration := by
  simp [rearmStmts, State.configuration]

theorem mismatchStmts_configuration : ∀ f ∈ mismatchStmts, ∀ s : State, (f s).configuration = s.configuration := by
  simp [mismatchStmts, State.configuration]

theorem runStmts_configuration {stmts : List (State → State)}
    (hf : ∀ f ∈ stmts, ∀ s : State, (f s).configuration = s.configuration) (s : State) :
    (runStmts stmts s).configuration = s.configuration :=
  runStmts_induct (P := fun t => t.configuration = s.configuration) (fun f hm t ht => (hf f hm t).trans ht) rfl

theorem oneStmt_configuration {stmts : List (State → State)}
    (hf : ∀ f ∈ stmts, ∀ s : State, (f s).configuration = s.configuration) (s : State) :
    (oneStmt stmts s).configuration = s.configuration :=
  oneStmt_induct (P := fun t => t.configuration = s.configuration) (fun f hm t ht => (hf f hm t).trans ht) rfl

theorem State.validateStep_configuration (s : State) : s.validateStep.configuration = s.configuration := by
  unfold State.validateStep State.branchOnCrc
  split <;> rfl

theorem State.decodeStep_configuration (s : State) : s.decodeStep.configuration = s.configuration := by
  unfold State.decodeStep State.branchOnType
  split <;> rfl

theorem State.leaveSample_configuration (s : State) : s.leaveSample.configuration = s.configuration := by
  unfold State.leaveSample
  split <;> rfl

theorem State.sampleStep_configuration (s : State) : s.sampleStep.configuration = s.configuration :=
  (State.leaveSample_configuration _).trans (s.sampleMedian_configuration s.rtype)

theorem execMainPaceRearm_configuration (ht : execMainPaceRearm s = .next t) : t.configuration = s.configuration := by
  cases ht
  split
  · exact runStmts_configuration rearmStmts_configuration s
  · exact runStmts_configuration rearmStmts_configuration s.paceStep

theorem execMainSampleStep_configuration (ht : execMainSampleStep s = .next t) : t.configuration = s.configuration := by
  unfold execMainSampleStep at ht
  split at ht
  · cases ht
  · cases ht; exact s.sampleStep_configuration

theorem mainOp_configuration (ht : mainOp s = .next t) : t.configuration = s.configuration := by
  unfold mainOp at ht
  cases hm : s.mseq with rw [hm] at ht
  | poll => cases ht; rfl
  | read => cases ht; exact s.readFrame_configuration
  | indOn => cases ht; exact runStmts_configuration indicatorOnStmts_configuration s
  | validate => cases ht; exact s.validateStep_configuration
  | decode => cases ht; exact s.decodeStep_configuration
  | sample => exact execMainSampleStep_configuration ht
  | encode => cases ht; rfl
  | send => cases ht; exact s.send_configuration
  | pace => exact execMainPaceRearm_configuration ht
  | rearm => exact execMainPaceRearm_configuration ht
  | mismatch => cases ht; exact runStmts_configuration mismatchStmts_configuration s

theorem State.takeNotification_configuration (s : State) : s.takeNotification.configuration = s.configuration := by
  unfold State.takeNotification
  split <;> rfl

theorem State.masterSend_configuration (s : State) (b : Byte) : (s.masterSend b).configuration = s.configuration := by
  unfold State.masterSend
  split <;> rfl

theorem State.masterSendAll_configuration (s : State) (bytes : List Byte) :
    (s.masterSendAll bytes).configuration = s.configuration := by
  induction bytes generalizing s with
  | nil => rfl
  | cons b bs ih => exact (ih (s.masterSend b)).trans (s.masterSend_configuration b)

theorem execDispNotify_configuration (ht : execDispNotify s = .next t) : t.configuration = s.configuration := by
  cases ht
  split
  · exact s.takeNotification_configuration
  · rfl

theorem takeFrame_configuration {bytes : List Byte} (ht : takeFrame bytes s = .next t) :
    t.configuration = s.configuration := by
  cases hr : s.ready with
  | true =>
    rw [takeFrame_ready bytes s hr] at ht
    have hn := State.takeNotification_configuration { s with rxq := bytes ++ s.rxq }
    exact cycle_induct (P := fun u => u.configuration = s.configuration)
      (fun _ _ hu hop => (mainOp_configuration hop).trans hu) hn ht
  | false =>
    rw [takeFrame_waits bytes s hr] at ht
    cases ht
    exact s.masterSendAll_configuration bytes

theorem State.finishStream_configuration (s : State) : s.finishStream.configuration = s.configuration := by
  obtain ⟨q, h, tm, c, ok, tr, he⟩ := s.finishStream_frame
  rw [he]; rfl

theorem State.acquire_configuration (s : State) : s.acquire.configuration = s.configuration := by
  obtain ⟨q, i, b, h, t, c, ok, m, o, tr, pq, k, he⟩ := s.acquire_frame
  rw [he]; rfl

/-- No instruction writes the configuration. -/
theorem exec_configuration (i : Instr) (ht : exec i s = .next t) : t.configuration = s.configuration := by
  cases i with
  | reqTemp | reqHum | reqUnk | reqBadCrc | reqOther => exact takeFrame_configuration ht
  | rspValue a v => cases ht; exact State.send_configuration _
  | strData h tm c => cases ht; exact State.finishStream_configuration _
  | crc16Compute bytes n =>
    simp only [exec, execCrc16Compute] at ht
    split at ht
    · cases ht; rfl
    · cases ht
  | fcValidate => cases ht; rfl
  | fcDecodeRequestType => cases ht; rfl
  | fcEncodeResponse a v => cases ht; rfl
  | dispNotify => exact execDispNotify_configuration ht
  | mainPoll => cases ht; rfl
  | mainReadFrame => cases ht; exact s.readFrame_configuration
  | mainIndicatorOn => cases ht; exact runStmts_configuration indicatorOnStmts_configuration s
  | mainValidateStep => cases ht; exact s.validateStep_configuration
  | mainDecodeStep => cases ht; exact s.decodeStep_configuration
  | mainSampleStep => exact execMainSampleStep_configuration ht
  | mainEncodeStep => cases ht; rfl
  | mainSend => cases ht; exact s.send_configuration
  | mainPaceRearm => exact execMainPaceRearm_configuration ht
  | mainMismatch => cases ht; exact runStmts_configuration mismatchStmts_configuration s
  | sdAcquire => cases ht; exact s.acquire_configuration
  | seSampleMedian ty =>
    simp only [exec, execSeSampleMedian] at ht
    split at ht
    · cases ht
    · cases ht; exact s.sampleMedian_configuration ty

theorem fetch_configuration (s : State) : (fetch s).2.configuration = s.configuration := by
  rcases fetch_cases s with ⟨-, i, rest, -, he⟩ | ⟨-, -, h, t, c, he⟩ | ⟨-, he⟩ | he
  · rw [he]; rfl
  all_goals rw [he]

theorem State.readStmt_frame (s : State) :
    ∃ r q k m j, s.readStmt = { s with req := r, rxq := q, byteIdx := k, mseq := m, sub := j } := by
  unfold State.readStmt
  split_ifs
  · obtain ⟨k, j, he⟩ := s.beginRead_frame
    exact ⟨s.req, s.rxq, k, s.mseq, j, he⟩
  · exact ⟨s.req, s.rxq, s.byteIdx, _, _, rfl⟩
  · obtain ⟨r, q, k, he⟩ := s.readBytes_frame 1
    exact ⟨r, q, k, s.mseq, s.sub, he⟩

theorem State.sendStmt_frame (s : State) :
    ∃ l k m j, s.sendStmt = { s with txlog := l, byteIdx := k, mseq := m, sub := j } := by
  unfold State.sendStmt
  split_ifs
  · obtain ⟨k, j, he⟩ := s.beginSend_frame
    exact ⟨s.txlog, k, s.mseq, j, he⟩
  · exact ⟨s.txlog, s.byteIdx, _, _, rfl⟩
  · exact ⟨_, _, s.mseq, s.sub, rfl⟩

/-- A statement of the engine writes what the engine writes, or is the loop's start, or its end (R150, R151). -/
theorem State.seStmt_writes_or (s : State) (ty : ReqType) :
    s.SamplingWrites (s.seStmt ty) ∨ s.seStmt ty = s.beginSample ∨ s.seStmt ty = s.takeMedian := by
  by_cases hs : s.sub = 0
  · exact .inr (.inl (by simp [State.seStmt, hs]))
  cases hn : s.sampled with
  | true => exact .inr (.inr (by simp [State.seStmt, hs, hn]))
  | false => exact .inl (s.seStmt_writes ty hs hn)

theorem State.seStmt_configuration (s : State) (ty : ReqType) : (s.seStmt ty).configuration = s.configuration := by
  rcases s.seStmt_writes_or ty with hw | he | he
  · exact hw.configuration
  · obtain ⟨k, j, hb⟩ := s.beginSample_frame
    rw [he, hb]; rfl
  · rw [he]; rfl

theorem mainStmt_configuration (ht : mainStmt s = .next t) : t.configuration = s.configuration := by
  unfold mainStmt at ht
  cases hm : s.mseq with rw [hm] at ht
  | poll => cases ht; rfl
  | read =>
    cases ht
    obtain ⟨r, q, k, m, j, he⟩ := s.readStmt_frame
    rw [he]; rfl
  | indOn => cases ht; exact oneStmt_configuration indicatorOnStmts_configuration s
  | validate => cases ht; exact s.validateStep_configuration
  | decode => cases ht; exact s.decodeStep_configuration
  | sample =>
    dsimp only at ht
    split at ht
    · cases ht
    · cases ht; exact (State.leaveSample_configuration _).trans (s.seStmt_configuration s.rtype)
  | encode => cases ht; rfl
  | send =>
    cases ht
    obtain ⟨l, k, m, j, he⟩ := s.sendStmt_frame
    rw [he]; rfl
  | pace => cases ht; rfl
  | rearm => cases ht; exact oneStmt_configuration rearmStmts_configuration s
  | mismatch => cases ht; exact oneStmt_configuration mismatchStmts_configuration s

theorem act_configuration (u : Turn) (ht : act u s = .next t) : t.configuration = s.configuration := by
  cases u with
  | master b => cases ht; exact s.masterSend_configuration b
  | handler => exact execDispNotify_configuration ht
  | stmt => exact mainStmt_configuration ht
  | main => exact exec_configuration _ ht
  | transact => exact (exec_configuration _ ht).trans (fetch_configuration s)
  | reset => cases ht; rfl

theorem nextTurn_configuration (s : State) : (nextTurn s).2.configuration = s.configuration := by
  unfold nextTurn
  split <;> rfl

/-! ### The control registers (R24, R26 to R28, R123) -/

/-- The registers of R22, R24, R26 and R27. -/
def State.controls (s : State) : Bool × Bool × Bool × DState := (s.indicator, s.notifyEn, s.rxEn, s.dstate)

/-- The pin's registers (R28). -/
def State.pin (s : State) : PinMode × Bool := (s.pinMode, s.pinOut)

/-- Which control registers a statement of MAIN may have changed, and where (R123, R174). -/
structure State.ControlsWrittenWhereNamed (s t : State) : Prop where
  indicator : t.indicator ≠ s.indicator → s.mseq = .indOn ∨ s.mseq = .mismatch
  notifyEn : t.notifyEn ≠ s.notifyEn → t.notifyEn = true ∧ (s.mseq = .rearm ∨ s.mseq = .mismatch)
  rxEn : t.rxEn ≠ s.rxEn → s.mseq = .mismatch
  pin : t.pinMode ≠ s.pinMode ∨ t.pinOut ≠ s.pinOut → s.mseq = .sample ∧ ∃ k, s.sdseq = .start k
  dstate : t.dstate ≠ s.dstate → s.mseq = .poll ∧ t.dstate = .idle

/-- A statement that leaves the control registers alone, and the pin outside StartPulse. -/
theorem State.ControlsWrittenWhereNamed.of_unchanged (hc : t.controls = s.controls)
    (hp : t.pin = s.pin ∨ s.mseq = .sample ∧ ∃ k, s.sdseq = .start k) : s.ControlsWrittenWhereNamed t := by
  simp only [State.controls, Prod.mk.injEq] at hc
  obtain ⟨hi, hn, hr, hd⟩ := hc
  refine ⟨absurd hi, absurd hn, absurd hr, fun hne => hp.resolve_left fun hp => ?_, absurd hd⟩
  simp only [State.pin, Prod.mk.injEq] at hp
  exact hne.elim (absurd hp.1) (absurd hp.2)

theorem State.leaveSample_controls (s : State) : s.leaveSample.controls = s.controls ∧ s.leaveSample.pin = s.pin := by
  unfold State.leaveSample
  split <;> exact ⟨rfl, rfl⟩

theorem State.validateStep_controls (s : State) : s.validateStep.controls = s.controls ∧ s.validateStep.pin = s.pin := by
  unfold State.validateStep State.branchOnCrc
  split <;> exact ⟨rfl, rfl⟩

theorem State.decodeStep_controls (s : State) : s.decodeStep.controls = s.controls ∧ s.decodeStep.pin = s.pin := by
  unfold State.decodeStep State.branchOnType
  split <;> exact ⟨rfl, rfl⟩

/-- Only StartPulse writes the pin (R131). -/
theorem State.sdStmt_pin (s : State) (hs : ∀ k, s.sdseq ≠ .start k) : s.sdStmt.pin = s.pin := by
  have hpoll : s.pollOnce.pin = s.pin := Prod.ext s.pollOnce_pin.1 s.pollOnce_pin.2
  unfold State.sdStmt
  cases hq : s.sdseq with
  | idle => rfl
  | start k => exact absurd hq (hs k)
  | prep p => exact hpoll
  | data b =>
    cases b with
    | a => exact hpoll
    | c => exact hpoll
    | d => exact hpoll
    | asm =>
      obtain ⟨q, h, tm, c, ok, tr, he⟩ := s.finishStream_frame
      simp only [he]; rfl
  | done => rfl
  | fail => rfl

theorem State.SamplingWrites.controls (h : s.SamplingWrites t) : t.controls = s.controls := by
  rw [h]; rfl

theorem State.seStmt_controls (s : State) (ty : ReqType) : (s.seStmt ty).controls = s.controls := by
  rcases s.seStmt_writes_or ty with hw | he | he
  · exact hw.controls
  · obtain ⟨k, j, hb⟩ := s.beginSample_frame
    rw [he, hb]; rfl
  · rw [he]; rfl

theorem State.seStmt_pin (s : State) (ty : ReqType) (hs : ∀ k, s.sdseq ≠ .start k) : (s.seStmt ty).pin = s.pin := by
  by_cases hsub : s.sub = 0
  · obtain ⟨k, j, hb⟩ := s.beginSample_frame
    rw [show s.seStmt ty = s.beginSample by simp [State.seStmt, hsub], hb]; rfl
  cases hn : s.sampled with
  | true => rw [show s.seStmt ty = s.takeMedian by simp [State.seStmt, hsub, hn]]; rfl
  | false =>
    rcases s.seStmt_cases ty hsub hn with ⟨he, -⟩ | ⟨he, -⟩
    · obtain ⟨v, tr, hk⟩ := s.sdStmt.keepReading_frame ty
      rw [he, hk]
      exact s.sdStmt_pin hs
    · rw [he]
      exact s.sdStmt_pin hs

theorem State.sampleStmt_controls (s : State) (hm : s.mseq = .sample) : s.ControlsWrittenWhereNamed s.sampleStmt := by
  obtain ⟨hc, hp⟩ := (s.seStmt s.rtype).leaveSample_controls
  refine .of_unchanged (hc.trans (s.seStmt_controls s.rtype)) ?_
  by_cases hs : ∃ k, s.sdseq = .start k
  · exact .inr ⟨hm, hs⟩
  · exact .inl (hp.trans (s.seStmt_pin s.rtype fun k hk => hs ⟨k, hk⟩))

theorem indicatorOnStmt_controls (hm : s.mseq = .indOn) : s.ControlsWrittenWhereNamed (oneStmt indicatorOnStmts s) := by
  by_cases hs : s.sub = 0
  · rw [oneStmt_indicatorOn_first hs]
    exact ⟨fun _ => .inl hm, absurd rfl, absurd rfl, by simp, absurd rfl⟩
  · rw [oneStmt_indicatorOn_last hs]
    exact .of_unchanged rfl (.inl rfl)

theorem rearmStmt_controls (hm : s.mseq = .rearm) : s.ControlsWrittenWhereNamed (oneStmt rearmStmts s) := by
  by_cases hs : s.sub = 0
  · rw [oneStmt_rearm_first hs]
    exact ⟨absurd rfl, fun _ => ⟨rfl, .inl hm⟩, absurd rfl, by simp, absurd rfl⟩
  · rw [oneStmt_rearm_last hs]
    exact .of_unchanged rfl (.inl rfl)

theorem mismatchStmt_controls (hm : s.mseq = .mismatch) : s.ControlsWrittenWhereNamed (oneStmt mismatchStmts s) := by
  by_cases hs : s.sub < 6
  · obtain ⟨tr, he⟩ := oneStmt_mismatch_next hs
    rw [he]
    refine ⟨fun _ => .inr hm, fun hne => ⟨?_, .inr hm⟩, fun _ => hm, by simp, absurd rfl⟩
    simp [(ite_ne_right_iff.mp hne).1]
  · rw [oneStmt_mismatch_last (by omega)]
    exact .of_unchanged rfl (.inl rfl)

theorem poll_controls (hm : s.mseq = .poll) : s.ControlsWrittenWhereNamed s.poll :=
  ⟨absurd rfl, absurd rfl, absurd rfl, by simp [State.poll_eq], fun _ => ⟨hm, rfl⟩⟩

theorem mainStmt_controls (ht : mainStmt s = .next t) : s.ControlsWrittenWhereNamed t := by
  unfold mainStmt at ht
  cases hm : s.mseq with rw [hm] at ht
  | poll => cases ht; exact poll_controls hm
  | read =>
    cases ht
    obtain ⟨r, q, k, m, j, he⟩ := s.readStmt_frame
    rw [he]; exact .of_unchanged rfl (.inl rfl)
  | indOn => cases ht; exact indicatorOnStmt_controls hm
  | validate =>
    cases ht
    obtain ⟨hc, hp⟩ := s.validateStep_controls
    exact .of_unchanged hc (.inl hp)
  | decode =>
    cases ht
    obtain ⟨hc, hp⟩ := s.decodeStep_controls
    exact .of_unchanged hc (.inl hp)
  | sample =>
    dsimp only at ht
    split at ht
    · cases ht
    · cases ht; exact s.sampleStmt_controls hm
  | encode => cases ht; exact .of_unchanged rfl (.inl rfl)
  | send =>
    cases ht
    obtain ⟨l, k, m, j, he⟩ := s.sendStmt_frame
    rw [he]; exact .of_unchanged rfl (.inl rfl)
  | pace => cases ht; exact .of_unchanged rfl (.inl rfl)
  | rearm => cases ht; exact rearmStmt_controls hm
  | mismatch => cases ht; exact mismatchStmt_controls hm

end

/-- Settles O56: no turn's agent writes the configuration. -/
theorem configurationNeverChanges : Obligations.ConfigurationNeverChanges := by
  intro s t ht
  have hc : t.configuration = s.configuration := (act_configuration _ ht).trans (nextTurn_configuration s)
  exact Prod.mk.inj hc

/-- Settles O58, by the statements of MAIN one by one. -/
theorem controlRegistersHaveNoOtherWriter : Obligations.ControlRegistersHaveNoOtherWriter := by
  intro s t ht
  obtain ⟨hind, hnotify, hrx, hpin, hdstate⟩ := mainStmt_controls ht
  exact ⟨hind, hnotify, hrx, hpin, hdstate⟩

end Sys2Proof.Machine

/-! ## Turns in a row, and what the turn of each agent does -/

namespace Sys2Proof.Machine

section
variable {s u : State}

/-! ### Turns in a row -/

/-- Turns that answer a next state are followed by the turns after them. -/
theorem turns_append {xs : List Turn} (h : turns xs s = .next u) (ys : List Turn) :
    turns (xs ++ ys) s = turns ys u := by
  induction xs generalizing s with
  | nil => cases h; rfl
  | cons x xs ih =>
    simp only [turns, List.cons_append] at h ⊢
    split at h
    · exact ih h
    · cases h
    · cases h

theorem turns_cons {x : Turn} (h : act x s = .next u) (ys : List Turn) : turns (x :: ys) s = turns ys u := by
  simp [turns, h]

/-- The master's turns in a row send its bytes in order (R66, R67). -/
theorem turns_master (bytes : List Byte) (s : State) :
    turns (bytes.map .master) s = .next (s.masterSendAll bytes) := by
  induction bytes generalizing s with
  | nil => rfl
  | cons b bs ih => exact (turns_cons (x := .master b) rfl _).trans (ih (s.masterSend b))

/-! ### The flush (R67) -/

/-- The third statement of the mismatch path turns the receiver off. -/
theorem mainStmt_rxOff (hm : s.mseq = .mismatch) (hs : s.sub = 2) : mainStmt s = .next s.rxOff.nextSub := by
  simp [mainStmt, hm, oneStmt, remaining, mismatchStmts, hs]

/-- The fourth turns it on again. -/
theorem mainStmt_rxOn (hm : s.mseq = .mismatch) (hs : s.sub = 3) : mainStmt s = .next s.rxOn.nextSub := by
  simp [mainStmt, hm, oneStmt, remaining, mismatchStmts, hs]

end

/-- Settles O51: the bytes sent between the two statements find the receiver off. -/
theorem bytesSentDuringTheFlushAreLost : Obligations.BytesSentDuringTheFlushAreLost := by
  intro s bytes hm hs
  have hsend : turns (bytes.map .master) s.rxOff.nextSub = .next s.rxOff.nextSub := by
    rw [turns_master, State.masterSendAll_off _ _ rfl]
  calc turns (.stmt :: bytes.map .master ++ [.stmt]) s
      = turns (bytes.map .master ++ [.stmt]) s.rxOff.nextSub := turns_cons (x := .stmt) (mainStmt_rxOff hm hs) _
    _ = turns [.stmt] s.rxOff.nextSub := turns_append hsend _
    _ = .next s.rxOff.nextSub.rxOn.nextSub :=
      turns_cons (x := .stmt) (mainStmt_rxOn (s := s.rxOff.nextSub) hm (by simp [hs])) []
    _ = .next { s with rxEn := true, rxq := [], sub := 4 } := by
      simp [State.rxOff, State.rxOn, State.nextSub, hs]

/-! ### A frame that waits (R66, R199) -/

/-- Settles O41: a request row is the taking of its frame, and a core that is not ready takes none: its bytes are sent. -/
theorem frameWaitsWhileNotReady : Obligations.FrameWaitsWhileNotReady := by
  intro s i hi hr
  rw [exec_of_request i hi, takeFrame_waits _ s hr]
  by_cases hx : s.rxEn = true
  · rw [s.masterSendAll_on _ hx, if_pos hx]
  · rw [s.masterSendAll_off _ (Bool.eq_false_iff.mpr hx), if_neg hx]

/-! ### The agent of the turn (R59, R84) -/

/-- A turn the stimulus names is taken off it and performed. -/
theorem step_of_sched {s : State} {u : Turn} {ts : List Turn} (h : s.sched = u :: ts) :
    step s = act u { s with sched := ts } := by
  simp [step, nextTurn, h]

/-- Where the stimulus names none, a free turn is drawn. -/
theorem step_of_no_sched {s : State} (h : s.sched = []) :
    step s = act (Config.freeTurn s.tick) { s with tick := s.tick + 1 } := by
  simp [step, nextTurn, h]

/-- Settles O43, agent by agent, and then by the table of R84. -/
theorem stepRunsTheAgentOfTheTurn : Obligations.StepRunsTheAgentOfTheTurn := by
  intro s ts
  refine ⟨step_of_sched, step_of_sched, step_of_sched, fun b h => ?_, step_of_sched, step_of_no_sched, ?_⟩
  · rw [step_of_sched h]
    rfl
  · refine ⟨?_, ?_, ?_, ?_, ?_, ?_, ?_, ?_, ?_, ?_, ?_⟩ <;>
    · intro hm
      simp [selected, hm]

/-! ### The order of the stream's bits (R50) -/

/-- Settles O32: each field is a slice of the stream, its last bit the slice's lowest. -/
theorem firstStreamBitIsMostSignificant : Obligations.FirstStreamBitIsMostSignificant := by
  intro str
  refine ⟨fun i hi => ?_, fun i hi => ?_, fun i hi => ?_⟩
  · have hk : 24 + (15 - i) = 39 - i := by omega
    rw [getLsbD_streamHum, hk, decide_eq_true (by omega), Bool.true_and, streamBit]
  · have hk : 8 + (15 - i) = 39 - (16 + i) := by omega
    rw [getLsbD_streamTmp, hk, decide_eq_true (by omega), Bool.true_and, streamBit]
  · have hk : 7 - i = 39 - (32 + i) := by omega
    rw [getLsbD_streamChk, hk, decide_eq_true (by omega), Bool.true_and, streamBit]

end Sys2Proof.Machine

/-! ## A short frame -/

namespace Sys2Proof.Machine

section
variable {s : State}

/-- Passes split where one likes (R112). -/
theorem State.readBytes_add (k n : Nat) (s : State) : s.readBytes (k + n) = (s.readBytes k).readBytes n := by
  induction k generalizing s with
  | zero => rw [Nat.zero_add]; rfl
  | succ k ih =>
    rw [Nat.succ_add]
    cases hq : s.rxq with
    | nil => simp only [s.readBytes_nil _ hq]
    | cons b q => rw [s.readBytes_cons _ b q hq, s.readBytes_cons _ b q hq]; exact ih _

/-- Passes that find their bytes queued do not depend on the bytes that come after them (R66). -/
theorem State.readBytes_masterSendAll (ys : List Byte) {k : Nat} (hx : s.rxEn = true) (hk : k ≤ s.rxq.length) :
    (s.masterSendAll ys).readBytes k = (s.readBytes k).masterSendAll ys := by
  induction k generalizing s with
  | zero => rfl
  | succ k ih =>
    cases hq : s.rxq with
    | nil => simp [hq] at hk
    | cons b q =>
      have hrest := ih (s := { s with rxq := q, req := s.req.setIfInBounds s.byteIdx b, byteIdx := s.byteIdx + 1 }) hx
        (by simpa [hq] using hk)
      rw [s.masterSendAll_on ys hx, State.readBytes_cons k _ b (q ++ ys) (by simp [hq]), s.readBytes_cons k b q hq,
        ← hrest, State.masterSendAll_on]
      exact hx

/-- With too few bytes queued the passes take what there is (R42, R53). -/
theorem State.readBytes_short {n : Nat} (hn : s.rxq.length ≤ n) : s.readBytes n = s.readBytes s.rxq.length := by
  have hempty : (s.readBytes s.rxq.length).rxq = [] := by simp [s.readBytes_counts _ le_rfl]
  rw [← Nat.add_sub_cancel' hn, s.readBytes_add, State.readBytes_nil _ _ hempty]

theorem State.beginRead_start (hs : s.sub = 0) : s.beginRead = { s with byteIdx := 1, sub := 1 } := by
  simp [State.beginRead, hs]

theorem State.beginRead_inside (hs : s.sub ≠ 0) : s.beginRead = s := by
  simp [State.beginRead, hs]

theorem State.readFrame_start (hs : s.sub = 0) : s.readFrame = (s.beginRead.readBytes 7).endRead := by
  rw [State.readFrame, State.beginRead_start hs]
  rfl

/-- Inside its loop MAIN's reading goes on where it stands. -/
theorem State.readFrame_inside (hs : s.sub ≠ 0) : s.readFrame = (s.readBytes (8 - s.byteIdx)).endRead := by
  rw [State.readFrame, State.beginRead_inside hs]

theorem State.endRead_short (hb : s.byteIdx < 8) : s.endRead = s := by
  simp [State.endRead, Nat.not_le.mpr hb]

/-- Where MAIN stands when a short frame has been taken: the bytes that were there are read and counted, the queue is empty,
and MAIN waits inside its loop (R53). -/
theorem State.readFrame_short (hs : s.sub = 0) (hq : s.rxq.length < 7) :
    s.readFrame = s.beginRead.readBytes s.rxq.length ∧ s.readFrame.rxq = [] ∧
      s.readFrame.byteIdx = 1 + s.rxq.length ∧ s.readFrame.sub = 1 ∧ s.readFrame.mseq = s.mseq ∧
      s.readFrame.rxEn = s.rxEn := by
  have hlen : s.beginRead.rxq.length = s.rxq.length := by rw [State.beginRead_start hs]
  obtain ⟨hempty, hcount⟩ := s.beginRead.readBytes_counts s.rxq.length hlen.ge
  rw [List.drop_of_length_le hlen.le] at hempty
  have hstart : s.beginRead.byteIdx = 1 := by rw [State.beginRead_start hs]
  rw [hstart] at hcount
  have htaken : s.readFrame = s.beginRead.readBytes s.rxq.length := by
    rw [State.readFrame_start hs, State.readBytes_short (by omega), hlen, State.endRead_short (by omega)]
  obtain ⟨r, q, k, hframe⟩ := s.beginRead.readBytes_frame s.rxq.length
  refine ⟨htaken, htaken ▸ hempty, htaken ▸ hcount, ?_⟩
  rw [htaken, hframe, State.beginRead_start hs]
  exact ⟨rfl, rfl, rfl⟩

theorem State.beginRead_masterSendAll (ys : List Byte) (hx : s.rxEn = true) (hs : s.sub = 0) :
    (s.masterSendAll ys).beginRead = s.beginRead.masterSendAll ys := by
  rw [State.masterSendAll_on _ _ hx, State.beginRead_start hs, State.masterSendAll_on]
  · exact State.beginRead_start hs
  · exact hx

/-- Bytes that come after a short frame was taken are read as if they had been there from the start. -/
theorem State.readFrame_resumed (hs : s.sub = 0) (hx : s.rxEn = true) (hq : s.rxq.length < 7) (ys : List Byte) :
    (s.readFrame.masterSendAll ys).readFrame = (s.masterSendAll ys).readFrame := by
  obtain ⟨htaken, -, hcount, hsub, -, hrx⟩ := State.readFrame_short hs hq
  have hstart : (s.masterSendAll ys).readFrame = ((s.beginRead.masterSendAll ys).readBytes 7).endRead := by
    rw [State.readFrame_start (by rw [State.masterSendAll_on _ _ hx]; exact hs), State.beginRead_masterSendAll ys hx hs]
  have hinside : (s.readFrame.masterSendAll ys).readFrame =
      ((s.readFrame.masterSendAll ys).readBytes (7 - s.rxq.length)).endRead := by
    have hleft : 8 - s.readFrame.byteIdx = 7 - s.rxq.length := by omega
    rw [State.masterSendAll_on _ _ (hrx.trans hx), State.readFrame_inside (by simp [hsub]), ← hleft]
  have hfirst : (s.beginRead.masterSendAll ys).readBytes s.rxq.length = s.readFrame.masterSendAll ys := by
    have hxb : s.beginRead.rxEn = true := by rw [State.beginRead_start hs]; exact hx
    have hlen : s.rxq.length ≤ s.beginRead.rxq.length := by rw [State.beginRead_start hs]
    rw [htaken, State.readBytes_masterSendAll ys hxb hlen]
  have hseven : 7 = s.rxq.length + (7 - s.rxq.length) := by omega
  rw [hinside, hstart, hseven, State.readBytes_add, hfirst, ← hseven]

end

/-- Settles O19: a short frame is taken as far as it goes, and the loop resumed is the loop run through. -/
theorem readFrameWaitsForMissingBytes : Obligations.ReadFrameWaitsForMissingBytes := by
  intro s hm hs hx hq
  obtain ⟨-, hempty, hcount, hsub, hmseq, -⟩ := State.readFrame_short hs hq
  have hwaits : s.readFrame.readFrame = s.readFrame := by
    rw [State.readFrame_inside (by simp [hsub]), State.readBytes_nil _ _ hempty, State.endRead_short (by omega)]
  exact ⟨s.readFrame, rfl, hmseq.trans hm, hempty, congrArg Host.Outcome.next hwaits,
    fun ys _ => congrArg Host.Outcome.next (State.readFrame_resumed hs hx hq ys)⟩

end Sys2Proof.Machine

/-! ## What is transmitted -/

namespace Sys2Proof.Machine

section
variable {s t : State}

theorem oneStmt_txlog {stmts : List (State → State)} (hf : ∀ f ∈ stmts, ∀ s : State, (f s).txlog = s.txlog)
    (s : State) : (oneStmt stmts s).txlog = s.txlog :=
  oneStmt_induct (P := fun t => t.txlog = s.txlog) (fun f hm t ht => (hf f hm t).trans ht) rfl

theorem State.validateStep_txlog (s : State) : s.validateStep.txlog = s.txlog := by
  unfold State.validateStep State.branchOnCrc
  split <;> rfl

theorem State.decodeStep_txlog (s : State) : s.decodeStep.txlog = s.txlog := by
  unfold State.decodeStep State.branchOnType
  split <;> rfl

theorem State.seStmt_txlog (s : State) (ty : ReqType) : (s.seStmt ty).txlog = s.txlog := by
  rcases s.seStmt_writes_or ty with hw | he | he
  · rw [hw]
  · obtain ⟨k, j, hb⟩ := s.beginSample_frame
    rw [he, hb]
  · rw [he]; rfl

theorem State.sampleStmt_txlog (s : State) : s.sampleStmt.txlog = s.txlog := by
  unfold State.sampleStmt State.leaveSample
  split <;> exact s.seStmt_txlog s.rtype

/-- Outside `M_SEND` no statement of MAIN transmits (R43, R118). -/
theorem mainStmt_txlog (hs : s.mseq ≠ .send) (ht : mainStmt s = .next t) : t.txlog = s.txlog := by
  unfold mainStmt at ht
  cases hm : s.mseq with rw [hm] at ht
  | poll => cases ht; rfl
  | read =>
    cases ht
    obtain ⟨r, q, k, m, j, he⟩ := s.readStmt_frame
    rw [he]
  | indOn => cases ht; exact oneStmt_txlog (by simp [indicatorOnStmts]) s
  | validate => cases ht; exact s.validateStep_txlog
  | decode => cases ht; exact s.decodeStep_txlog
  | sample =>
    dsimp only at ht
    split at ht
    · cases ht
    · cases ht; exact s.sampleStmt_txlog
  | encode => cases ht; rfl
  | send => exact absurd hm hs
  | pace => cases ht; rfl
  | rearm => cases ht; exact oneStmt_txlog (by simp [rearmStmts]) s
  | mismatch => cases ht; exact oneStmt_txlog (by simp [mismatchStmts]) s

/-- A statement of `MAIN.send` transmits nothing, or the byte of `RSP` its counter names (R118). -/
theorem State.sendStmt_txlog (s : State) :
    s.sendStmt.txlog = s.txlog ∨ ∃ h : s.byteIdx < 7, s.sendStmt.txlog = s.txlog ++ [s.rsp[s.byteIdx]] := by
  unfold State.sendStmt
  split_ifs with hs hb
  · obtain ⟨k, j, he⟩ := s.beginSend_frame
    exact .inl (by rw [he])
  · exact .inl rfl
  · have hb : s.byteIdx < 7 := Nat.not_le.mp hb
    exact .inr ⟨hb, by simp [State.sendByte, hb]⟩

theorem State.takeNotification_txlog (s : State) : s.takeNotification.txlog = s.txlog := by
  unfold State.takeNotification
  split <;> rfl

theorem State.masterSend_txlog (s : State) (b : Byte) : (s.masterSend b).txlog = s.txlog := by
  unfold State.masterSend
  split <;> rfl

end

/-- Settles O55: of the three agents' turns only a statement in `M_SEND` writes `TXLOG`. -/
theorem onlySendTransmits : Obligations.OnlySendTransmits := by
  rintro s t u (rfl | rfl | ⟨b, rfl⟩) ht
  · by_cases hm : s.mseq = .send
    · obtain rfl : s.sendStmt = t := by simpa [act, mainStmt, hm] using ht
      exact s.sendStmt_txlog.imp_right fun hsent => ⟨rfl, hm, hsent⟩
    · exact .inl (mainStmt_txlog hm ht)
  · cases ht
    left
    split
    · exact s.takeNotification_txlog
    · rfl
  · cases ht
    exact .inl (s.masterSend_txlog b)

end Sys2Proof.Machine

/-! ## A coarse turn is its statements -/

namespace Sys2Proof.Machine

/-- Statements of MAIN, one turn each with nothing between them, lead from `s` to `t` (R55). -/
def State.StmtsReach (s t : State) : Prop := ∃ n, turns (List.replicate n .stmt) s = .next t

section
variable {s t u : State}

theorem State.StmtsReach.refl (s : State) : s.StmtsReach s := ⟨0, rfl⟩

theorem State.StmtsReach.trans (h : s.StmtsReach t) (h' : t.StmtsReach u) : s.StmtsReach u := by
  obtain ⟨m, hm⟩ := h
  obtain ⟨n, hn⟩ := h'
  exact ⟨m + n, by rw [← List.replicate_append_replicate, turns_append hm, hn]⟩

theorem State.StmtsReach.single (h : mainStmt s = .next t) : s.StmtsReach t := ⟨1, turns_cons (x := .stmt) h []⟩

/-! ### Operations given as a list of statements -/

/-- At or past its last position an operation is its last statement. -/
theorem runStmts_last {stmts : List (State → State)} (hs : stmts.length ≤ s.sub + 1) :
    runStmts stmts s = oneStmt stmts s := by
  have hk : min s.sub (stmts.length - 1) = stmts.length - 1 := by omega
  by_cases hne : stmts = []
  · simp [runStmts, oneStmt, remaining, hne]
  · simp [runStmts, oneStmt, remaining, hk, List.drop_length_sub_one hne]

/-- An operation whose statements are a list, each but the last passing to the next, is its statements. -/
theorem runStmts_reach {stmts : List (State → State)} {m : MSeq}
    (hstmt : ∀ v : State, v.mseq = m → mainStmt v = .next (oneStmt stmts v))
    (hnext : ∀ v : State, v.mseq = m → v.sub + 1 < stmts.length →
      (oneStmt stmts v).mseq = m ∧ (oneStmt stmts v).sub = v.sub + 1)
    (hm : s.mseq = m) : s.StmtsReach (runStmts stmts s) := by
  induction hk : stmts.length - s.sub generalizing s with
  | zero =>
    rw [runStmts_last (by omega)]
    exact .single (hstmt s hm)
  | succ k ih =>
    by_cases hl : s.sub + 1 < stmts.length
    · obtain ⟨hm', hs'⟩ := hnext s hm hl
      rw [runStmts_eq_oneStmt stmts s (by omega) fun _ => hs', if_pos hl]
      exact (State.StmtsReach.single (hstmt s hm)).trans (ih hm' (by omega))
    · rw [runStmts_last (by omega)]
      exact .single (hstmt s hm)

theorem indicatorOn_reach (hm : s.mseq = .indOn) : s.StmtsReach (runStmts indicatorOnStmts s) := by
  refine runStmts_reach (fun v hv => by simp [mainStmt, hv]) (fun v hv hs => ?_) hm
  rw [oneStmt_indicatorOn_first (by simpa [indicatorOnStmts] using hs)]
  exact ⟨hv, rfl⟩

theorem rearm_reach (hm : s.mseq = .rearm) : s.StmtsReach (runStmts rearmStmts s) := by
  refine runStmts_reach (fun v hv => by simp [mainStmt, hv]) (fun v hv hs => ?_) hm
  rw [oneStmt_rearm_first (by simpa [rearmStmts] using hs)]
  exact ⟨hv, rfl⟩

theorem mismatch_reach (hm : s.mseq = .mismatch) : s.StmtsReach (runStmts mismatchStmts s) := by
  refine runStmts_reach (fun v hv => by simp [mainStmt, hv]) (fun v hv hs => ?_) hm
  have hs : v.sub + 1 < 7 := hs
  obtain ⟨tr, he⟩ := oneStmt_mismatch_next (s := v) (by omega)
  rw [he]
  exact ⟨hv, rfl⟩

/-- The pace, where MAIN stands before it, and the re-arming (R119). -/
theorem paceRearm_reach (hm : s.mseq = .pace ∨ s.mseq = .rearm) (ht : execMainPaceRearm s = .next t) :
    s.StmtsReach t := by
  cases ht
  split
  · rename_i hr
    exact rearm_reach hr
  · rename_i hr
    have hpace : mainStmt s = .next s.paceStep := by simp [mainStmt, hm.resolve_right hr]
    exact (State.StmtsReach.single hpace).trans (rearm_reach rfl)

/-! ### The byte loops (R112, R118) -/

theorem mainStmt_read (hm : s.mseq = .read) : mainStmt s = .next s.readStmt := by simp [mainStmt, hm]

theorem mainStmt_send (hm : s.mseq = .send) : mainStmt s = .next s.sendStmt := by simp [mainStmt, hm]

theorem beginRead_reach (hm : s.mseq = .read) : s.StmtsReach s.beginRead := by
  by_cases hs : s.sub = 0
  · exact .single (by simp [mainStmt_read hm, State.readStmt, hs])
  · rw [State.beginRead_inside hs]
    exact .refl s

/-- The passes that remain of the reading loop, as far as the queue reaches. -/
theorem readBytes_reach (n : Nat) (hm : s.mseq = .read) (hs : s.sub ≠ 0) (hn : n = 8 - s.byteIdx) :
    s.StmtsReach (s.readBytes n) := by
  induction n generalizing s with
  | zero => exact .refl s
  | succ n ih =>
    have hone : mainStmt s = .next (s.readBytes 1) := by
      simp [mainStmt_read hm, State.readStmt, hs, show ¬ 8 ≤ s.byteIdx by omega]
    cases hq : s.rxq with
    | nil =>
      rw [s.readBytes_nil _ hq]
      exact .refl s
    | cons b q =>
      rw [Nat.add_comm, s.readBytes_add 1 n]
      refine (State.StmtsReach.single hone).trans ?_
      rw [s.readBytes_cons 0 b q hq]
      exact ih hm hs (by simp only [State.readBytes]; omega)

theorem endRead_reach (hm : s.mseq = .read) (hs : s.sub ≠ 0) : s.StmtsReach s.endRead := by
  unfold State.endRead
  split
  · rename_i hb
    exact .single (by simp [mainStmt_read hm, State.readStmt, hs, hb])
  · exact .refl s

theorem readFrame_reach (hm : s.mseq = .read) : s.StmtsReach s.readFrame := by
  have hmb : s.beginRead.mseq = .read := s.beginRead_mseq.trans hm
  have hb := s.beginRead_sub
  obtain ⟨r, q, k, he⟩ := s.beginRead.readBytes_frame (8 - s.beginRead.byteIdx)
  refine ((beginRead_reach hm).trans (readBytes_reach _ hmb hb rfl)).trans (endRead_reach ?_ ?_)
  · rw [he]; exact hmb
  · rw [he]; exact hb

theorem beginSend_reach (hm : s.mseq = .send) : s.StmtsReach s.beginSend := by
  by_cases hs : s.sub = 0
  · exact .single (by simp [mainStmt_send hm, State.sendStmt, hs])
  · rw [show s.beginSend = s by simp [State.beginSend, hs]]
    exact .refl s

/-- The passes that remain of the sending loop, and the transition. -/
theorem sendBytes_reach (n : Nat) (hm : s.mseq = .send) (hs : s.sub ≠ 0) (hn : n = 7 - s.byteIdx) :
    s.StmtsReach ((s.sendBytes n).goto .pace) := by
  induction n generalizing s with
  | zero =>
    exact .single (by simp [mainStmt_send hm, State.sendStmt, hs, show 7 ≤ s.byteIdx by omega, State.sendBytes])
  | succ n ih =>
    have hone : mainStmt s = .next s.sendByte := by
      simp [mainStmt_send hm, State.sendStmt, hs, show ¬ 7 ≤ s.byteIdx by omega]
    exact (State.StmtsReach.single hone).trans (ih hm hs (by simp only [State.sendByte]; omega))

theorem send_reach (hm : s.mseq = .send) : s.StmtsReach s.send :=
  (beginSend_reach hm).trans (sendBytes_reach _ (s.beginSend_mseq.trans hm) s.beginSend_sub rfl)

/-! ### The sampling: inside its loop (R150) -/

/-- MAIN is inside the loop of R150, sampling for a type the engine has a meaning for. -/
structure State.InLoop (s : State) : Prop where
  mseq : s.mseq = .sample
  sub : s.sub ≠ 0
  rtype : s.rtype ≠ .unknown

theorem State.InLoop.of_samplingWrites (h : s.InLoop) (hw : s.SamplingWrites t) :
    t.InLoop ∧ t.rtype = s.rtype := by
  rw [hw]
  exact ⟨⟨h.mseq, h.sub, h.rtype⟩, rfl⟩

/-- Inside the loop of R150, before its ninth pass has ended. -/
structure State.InPass (s : State) : Prop extends State.InLoop s where
  smpIdx : s.smpIdx < 9

theorem State.InPass.of_driverWrites (h : s.InPass) (hw : s.DriverWrites t) : t.InPass ∧ t.rtype = s.rtype := by
  rw [hw]
  exact ⟨⟨⟨h.mseq, h.sub, h.rtype⟩, h.smpIdx⟩, rfl⟩

theorem State.DriverWrites.trans (h : s.DriverWrites t) (h' : t.DriverWrites u) : s.DriverWrites u := by
  unfold State.DriverWrites at *
  exact h'.trans (by rw [h])

theorem State.leaveSample_inside (hs : s.sub ≠ 0) : s.leaveSample = s := by
  simp [State.leaveSample, hs]

theorem mainStmt_sample (hm : s.mseq = .sample) (hr : s.rtype ≠ .unknown) :
    mainStmt s = .next (s.seStmt s.rtype).leaveSample := by
  simp [mainStmt, hm, hr, State.sampleStmt]

theorem State.InPass.not_sampled (h : s.InPass) : s.sampled = false := by
  rw [Bool.eq_false_iff]
  intro hs
  exact Nat.not_le.mpr h.smpIdx (s.sampled_iff.mp hs).1

/-- A statement inside a pass is the engine's (R55). -/
theorem State.InPass.mainStmt (h : s.InPass) : mainStmt s = .next (s.seStmt s.rtype) := by
  have hw := s.seStmt_writes s.rtype h.sub h.not_sampled
  rw [mainStmt_sample h.mseq h.rtype, State.leaveSample_inside (h.toInLoop.of_samplingWrites hw).1.sub]

/-- While the acquisition goes on, a statement is the driver's. -/
theorem State.InPass.driverStmt (h : s.InPass) (hd : s.sdseq ≠ .done) (hf : s.sdseq ≠ .fail) :
    Machine.mainStmt s = .next s.sdStmt := by
  rw [h.mainStmt]
  rcases s.seStmt_cases s.rtype h.sub h.not_sampled with ⟨-, hq⟩ | ⟨he, -, -⟩
  · exact absurd hq (by simp [hd, hf])
  · rw [he]

/-- With the acquisition's result there, the statement ends the pass. -/
theorem State.InPass.lastStmt (h : s.InPass) (hq : s.sdseq = .done ∨ s.sdseq = .fail) :
    Machine.mainStmt s = .next ((s.sdGoto .idle).keepReading s.rtype) := by
  rw [h.mainStmt]
  rcases s.seStmt_cases s.rtype h.sub h.not_sampled with ⟨he, -⟩ | ⟨-, hd, hf⟩
  · rw [he]
    rcases hq with hq | hq <;> simp [State.sdStmt, hq]
  · exact absurd hq (by simp [hd, hf])

/-! ### The driver's part of a pass -/

theorem State.startPulse_writes (s : State) : s.DriverWrites s.startPulse := by
  obtain ⟨q, m, o, tr, he⟩ := s.startPulse_frame
  rw [State.DriverWrites, he]

theorem State.pollOnce_writes (s : State) : s.DriverWrites s.pollOnce := by
  obtain ⟨q, i, b, tr, pq, k, he⟩ := s.pollOnce_frame
  rw [State.DriverWrites, he]

theorem State.polls_writes (s : State) : s.DriverWrites s.polls := by
  obtain ⟨q, i, b, tr, pq, k, he⟩ := s.polls_frame
  rw [State.DriverWrites, he]

theorem State.finishStream_writes (s : State) : s.DriverWrites s.finishStream := by
  obtain ⟨q, h, tm, c, ok, tr, he⟩ := s.finishStream_frame
  rw [State.DriverWrites, he]

theorem State.acquire_writes (s : State) : s.DriverWrites s.acquire := by
  obtain ⟨q, i, b, h, t, c, ok, m, o, tr, pq, k, he⟩ := s.acquire_frame
  rw [State.DriverWrites, he]

/-- The call, and each line of StartPulse, is a statement after which the rest of StartPulse remains (R131). -/
theorem State.startPulse_sdStmt (hq : s.sdseq = .idle ∨ ∃ k, s.sdseq = .start k) :
    s.startPulse = s.sdStmt.startPulse := by
  rcases hq with hq | ⟨k, hq⟩
  · simp only [State.startPulse, State.sdStmt, hq]; rfl
  · cases k <;> simp only [State.startPulse, State.sdStmt, hq] <;> rfl

theorem State.InPass.startPulse_next (h : s.InPass) (hq : s.sdseq = .idle ∨ ∃ k, s.sdseq = .start k)
    (hrest : s.sdStmt.StmtsReach s.sdStmt.startPulse) : s.StmtsReach s.startPulse := by
  have hstmt : Machine.mainStmt s = .next s.sdStmt := by
    refine h.driverStmt ?_ ?_ <;>
    · intro he
      simp [he] at hq
  rw [State.startPulse_sdStmt hq]
  exact (State.StmtsReach.single hstmt).trans hrest

theorem State.InPass.sdStmt (h : s.InPass) : s.sdStmt.InPass := (h.of_driverWrites s.sdStmt_writes).1

/-- StartPulse is its statements, from wherever the driver stands in it (R131). -/
theorem State.InPass.startPulse_reach (h : s.InPass) : s.StmtsReach s.startPulse := by
  have fromInput : ∀ {v : State}, v.InPass → v.sdseq = .start .input → v.StmtsReach v.startPulse := by
    intro v hv hq
    refine hv.startPulse_next (.inr ⟨_, hq⟩) ?_
    rw [show v.sdStmt = v.startStmt .input by simp [State.sdStmt, hq]]
    exact .refl _
  have fromRelease : ∀ {v : State}, v.InPass → v.sdseq = .start .release → v.StmtsReach v.startPulse :=
    fun hv hq => hv.startPulse_next (.inr ⟨_, hq⟩)
      (fromInput hv.sdStmt (by simp [State.sdStmt, hq, State.startStmt]))
  have fromLow : ∀ {v : State}, v.InPass → v.sdseq = .start .low → v.StmtsReach v.startPulse :=
    fun hv hq => hv.startPulse_next (.inr ⟨_, hq⟩)
      (fromRelease hv.sdStmt (by simp [State.sdStmt, hq, State.startStmt]))
  have fromWake : ∀ {v : State}, v.InPass → v.sdseq = .start .wake → v.StmtsReach v.startPulse :=
    fun hv hq => hv.startPulse_next (.inr ⟨_, hq⟩)
      (fromLow hv.sdStmt (by simp [State.sdStmt, hq, State.startStmt]))
  have stays : s.startPulse = s → s.StmtsReach s.startPulse := fun he => by rw [he]; exact .refl s
  cases hq : s.sdseq with
  | idle => exact h.startPulse_next (.inl hq) (fromWake h.sdStmt (by simp [State.sdStmt, hq]))
  | start k =>
    cases k with
    | wake => exact fromWake h hq
    | low => exact fromLow h hq
    | release => exact fromRelease h hq
    | input => exact fromInput h hq
  | prep p => exact stays (by simp [State.startPulse, hq])
  | data b => exact stays (by simp [State.startPulse, hq])
  | done => exact stays (by simp [State.startPulse, hq])
  | fail => exact stays (by simp [State.startPulse, hq])

/-- After StartPulse the driver listens, or has its result (R137). -/
theorem State.startPulse_sdseq (s : State) :
    s.startPulse.sdseq.listening = true ∨ s.startPulse.sdseq = .done ∨ s.startPulse.sdseq = .fail := by
  unfold State.startPulse
  cases hq : s.sdseq with
  | idle => exact .inl rfl
  | start k => cases k <;> exact .inl rfl
  | prep p => exact .inl (by simp [hq, SdSeq.listening])
  | data b => exact .inl (by simp [hq, SdSeq.listening])
  | done => exact .inr (.inl hq)
  | fail => exact .inr (.inr hq)

/-- Where the driver reads the pin, its statement is one read (R55). -/
theorem State.sdStmt_of_reads (hr : s.sdseq.reads = true) :
    s.sdStmt = s.pollOnce ∧ s.sdseq ≠ .done ∧ s.sdseq ≠ .fail := by
  cases hq : s.sdseq with
  | prep p => simp [State.sdStmt, hq]
  | data b =>
    cases b with
    | asm => simp [hq, SdSeq.reads] at hr
    | a | c | d => simp [State.sdStmt, hq]
  | idle | start k | done | fail => simp [hq, SdSeq.reads] at hr

theorem State.InPass.readStmt (h : s.InPass) (hr : s.sdseq.reads = true) : Machine.mainStmt s = .next s.pollOnce := by
  obtain ⟨he, hd, hf⟩ := State.sdStmt_of_reads hr
  rw [h.driverStmt hd hf, he]

/-- With nothing to answer, or nothing to read, the answered reads are none. -/
theorem State.pollAll_none (h : s.pinq = [] ∨ s.sdseq.reads = false) : s.pollAll = s := by
  have hrun : s.acq.run s.cfg.prepLowWait s.pinq = (s.acq, s.pinq) := by
    rcases h with hq | hr
    · rw [hq]; rfl
    · exact Acq.run_done _ s.acq _ hr
  rw [State.pollAll, hrun]
  rfl

/-- The answered reads are the first and those after it. -/
theorem State.pollAll_cons {l : Bool} {ls : List Bool} (hp : s.pinMode = .input) (hq : s.pinq = l :: ls)
    (hr : s.sdseq.reads = true) : s.pollAll = s.pollOnce.pollAll ∧ s.pollOnce.pinq = ls := by
  have hone : s.pollOnce = ({ s with pinq := ls } : State).setAcq (s.acq.feed s.cfg.prepLowWait l) := by
    rw [State.pollOnce, s.pinRead_input l ls hp hq]
  rw [hone, State.pollAll, hq, Acq.run_cons _ s.acq _ _ hr]
  exact ⟨rfl, rfl⟩

theorem State.InPass.pollAll_reach (h : s.InPass) (hp : s.pinMode = .input) : s.StmtsReach s.pollAll := by
  induction hq : s.pinq generalizing s with
  | nil =>
    rw [State.pollAll_none (.inl hq)]
    exact .refl s
  | cons l ls ih =>
    cases hr : s.sdseq.reads with
    | false =>
      rw [State.pollAll_none (.inr hr)]
      exact .refl s
    | true =>
      obtain ⟨hall, hrest⟩ := State.pollAll_cons hp hq hr
      rw [hall]
      exact (State.StmtsReach.single (h.readStmt hr)).trans
        (ih (h.of_driverWrites s.pollOnce_writes).1 (s.pollOnce_pin.1.trans hp) hrest)

/-- The reads of an acquisition, as far as the answers reach, are statements (R138). -/
theorem State.InPass.polls_reach (h : s.InPass) : s.StmtsReach s.polls := by
  unfold State.polls
  split_ifs with hr hq
  · exact h.pollAll_reach hq.1
  · exact .single (h.readStmt hr)
  · exact .refl s

/-! ### The passes -/

/-- Where an acquisition stands after its reads: listening, or with its result. -/
theorem State.polls_startPulse_sdseq (s : State) :
    s.startPulse.polls.sdseq.listening = true ∨ s.startPulse.polls.sdseq = .done ∨
      s.startPulse.polls.sdseq = .fail := by
  rcases s.startPulse_sdseq with hl | hd | hf
  · exact .inl (State.polls_induct (s := s.startPulse) (P := fun a => a.seq.listening = true)
      (fun lw _ l ha => Acq.feed_listening ha lw l) hl)
  · exact .inr (.inl (by simp [State.polls, hd, SdSeq.reads]))
  · exact .inr (.inr (by simp [State.polls, hf, SdSeq.reads]))

/-- An acquisition returns with its stream assembled, or its result there already; elsewhere it waits (R130, R138). -/
theorem State.acquireReturn_cases (s : State) :
    (s.acquireReturn = s ∧ s.sdseq ≠ .done ∧ s.sdseq ≠ .fail) ∨
      (s.acquireReturn = s.finishStream.sdGoto .idle ∧ s.sdseq = .data .asm) ∨
      (s.acquireReturn = s.sdGoto .idle ∧ (s.sdseq = .done ∨ s.sdseq = .fail)) := by
  cases hq : s.sdseq with
  | data b => cases b <;> simp [State.acquireReturn, hq]
  | done => simp [State.acquireReturn, hq]
  | fail => simp [State.acquireReturn, hq]
  | idle => simp [State.acquireReturn, hq]
  | start k => simp [State.acquireReturn, hq]
  | prep p => simp [State.acquireReturn, hq]

/-- The assembly with its test is one statement (R134 to R136). -/
theorem State.InPass.asmStmt (h : s.InPass) (hq : s.sdseq = .data .asm) :
    Machine.mainStmt s = .next s.finishStream := by
  rw [h.driverStmt (by simp [hq]) (by simp [hq])]
  simp [State.sdStmt, hq]

/-- A pass whose acquisition returns keeps its reading. -/
theorem State.passes_one_returned {v : State} (ty : ReqType) (he : s.acquire = v.sdGoto .idle) :
    s.passes 1 ty = (v.sdGoto .idle).keepReading ty := by
  rw [s.passes_succ_idle 0 ty (by rw [he]; rfl), he, State.passes_zero]

/-- A pass of the loop, as far as the answers reach. -/
theorem State.InPass.pass_reach (h : s.InPass) : s.StmtsReach (s.passes 1 s.rtype) := by
  have hp := (h.of_driverWrites s.startPulse_writes).1
  have hreads := h.startPulse_reach.trans hp.polls_reach
  obtain ⟨hr, hty⟩ := h.of_driverWrites (s.startPulse_writes.trans s.startPulse.polls_writes)
  rcases s.startPulse.polls.acquireReturn_cases with ⟨he, hd, hf⟩ | ⟨he, hq⟩ | ⟨he, hq⟩
  · have hacq : s.acquire = s.startPulse.polls := he
    have hi : s.acquire.sdseq ≠ .idle := by
      intro hi
      rw [hacq] at hi
      simpa [hd, hf, hi, SdSeq.listening] using s.polls_startPulse_sdseq
    rwa [s.passes_succ_waits 0 _ hi, hacq]
  · obtain ⟨hdone, hdty⟩ := hr.of_driverWrites s.startPulse.polls.finishStream_writes
    rw [State.passes_one_returned _ he, ← hty, ← hdty]
    exact (hreads.trans (.single (hr.asmStmt hq))).trans
      (.single (hdone.lastStmt s.startPulse.polls.finishStream_sdseq))
  · rw [State.passes_one_returned _ he, ← hty]
    exact hreads.trans (.single (hr.lastStmt hq))

/-- The passes that remain of the loop, as far as the answers reach. -/
theorem State.InLoop.passes_reach (n : Nat) (h : s.InLoop) (hn : n = 9 - s.smpIdx) {ty : ReqType}
    (hty : s.rtype = ty) : s.StmtsReach (s.passes n ty) := by
  induction n generalizing s with
  | zero => exact .refl s
  | succ n ih =>
    have hpass := State.InPass.pass_reach ⟨h, by omega⟩
    rw [hty] at hpass
    by_cases hi : s.acquire.sdseq = .idle
    · rw [s.passes_succ_idle 0 ty hi, State.passes_zero] at hpass
      rw [s.passes_succ_idle n ty hi]
      obtain ⟨hl, hr⟩ := h.of_samplingWrites (s.acquire_writes.sampling.trans (s.acquire.keepReading_writes ty))
      have hcount : (s.acquire.keepReading ty).smpIdx = s.smpIdx + 1 := by
        rw [(s.acquire.keepReading_sdseq ty).2, s.acquire_smpIdx]
      exact hpass.trans (ih hl (by omega) (hr.trans hty))
    · rw [s.passes_succ_waits 0 ty hi] at hpass
      rwa [s.passes_succ_waits n ty hi]

theorem beginSample_reach (hm : s.mseq = .sample) (hr : s.rtype ≠ .unknown) : s.StmtsReach s.beginSample := by
  by_cases hs : s.sub = 0
  · refine .single ?_
    rw [mainStmt_sample hm hr, show s.seStmt s.rtype = s.beginSample by simp [State.seStmt, hs],
      State.leaveSample_inside s.beginSample_sub]
  · rw [show s.beginSample = s by simp [State.beginSample, hs]]
    exact .refl s

/-- The sort, the median and the transition, when all nine passes are done, are the last statement (R151, R116). -/
theorem State.InLoop.endSample_reach (h : s.InLoop) : s.StmtsReach s.endSample.leaveSample := by
  unfold State.endSample
  split
  · rename_i hs
    refine .single ?_
    rw [mainStmt_sample h.mseq h.rtype, show s.seStmt s.rtype = s.takeMedian by simp [State.seStmt, h.sub, hs]]
  · rw [State.leaveSample_inside h.sub]
    exact .refl s

theorem sampleStep_reach (hm : s.mseq = .sample) (hr : s.rtype ≠ .unknown) : s.StmtsReach s.sampleStep := by
  have hty : s.beginSample.rtype = s.rtype := by
    obtain ⟨k, j, he⟩ := s.beginSample_frame
    rw [he]
  have hb : s.beginSample.InLoop := ⟨s.beginSample_mseq.trans hm, s.beginSample_sub, hty.trans_ne hr⟩
  have hp := (hb.of_samplingWrites (s.beginSample.passes_writes (9 - s.beginSample.smpIdx) s.rtype)).1
  exact ((beginSample_reach hm hr).trans (hb.passes_reach _ rfl hty)).trans hp.endSample_reach

/-! ### A request's bytes (R77, R78) -/

theorem requestTypeOf_eq_temperature (b : Byte) : requestTypeOf b = .temperature ↔ b = 0x01 := by
  unfold requestTypeOf
  split
  · simp_all
  · split <;> simp_all

theorem requestTypeOf_eq_humidity (b : Byte) : requestTypeOf b = .humidity ↔ b = 0x02 := by
  unfold requestTypeOf
  split
  · simp_all
  · split <;> simp_all

/-- The row of a frame is encoded by the frame's bytes (R77). -/
theorem encode_requestRow (a r1 r2 ty r4 r5 lo hi : Byte) :
    encode (requestRow a r1 r2 ty r4 r5 lo hi) = [a, r1, r2, ty, r4, r5, lo, hi] := by
  unfold requestRow
  split
  · rename_i hok
    have htrailer : withTrailer [a, r1, r2, ty, r4, r5] = [a, r1, r2, ty, r4, r5, lo, hi] := by
      simp only [requestCrcOk, Bool.and_eq_true, beq_iff_eq] at hok
      obtain ⟨hlo, hhi⟩ := hok
      simp [withTrailer, crcTrailer, hlo, hhi]
    split
    · rename_i hty
      obtain rfl := (requestTypeOf_eq_temperature ty).mp hty
      exact htrailer
    · rename_i hty
      obtain rfl := (requestTypeOf_eq_humidity ty).mp hty
      exact htrailer
    · exact htrailer
  · rfl

/-- A request takes the bytes that encode it off the queue (R77). -/
theorem decodeRequest_bytes (slave : Byte) (bytes rest : List Byte) (i : Instr)
    (h : decodeRequest slave bytes = .ok i rest) : encode i ++ rest = bytes := by
  unfold decodeRequest at h
  split at h
  · cases h
  · split at h
    · split at h
      · cases h; rw [encode_requestRow]; rfl
      · cases h
    · cases h; rfl

/-! ### MAIN's turn, and a request's -/

/-- An operation of MAIN in one turn is its statements (R55, R84). -/
theorem mainOp_reach (ht : mainOp s = .next t) : s.StmtsReach t := by
  unfold mainOp at ht
  cases hm : s.mseq with rw [hm] at ht
  | poll => cases ht; exact .single (by simp [mainStmt, hm])
  | read => cases ht; exact readFrame_reach hm
  | indOn => cases ht; exact indicatorOn_reach hm
  | validate => cases ht; exact .single (by simp [mainStmt, hm])
  | decode => cases ht; exact .single (by simp [mainStmt, hm])
  | sample =>
    dsimp only [execMainSampleStep] at ht
    split at ht
    · cases ht
    · rename_i hr
      cases ht; exact sampleStep_reach hm hr
  | encode => cases ht; exact .single (by simp [mainStmt, hm])
  | send => cases ht; exact send_reach hm
  | pace => exact paceRearm_reach (.inl hm) ht
  | rearm => exact paceRearm_reach (.inr hm) ht
  | mismatch => cases ht; exact mismatch_reach hm

theorem cycle_reach {n : Nat} (ht : cycle n s = .next t) : s.StmtsReach t :=
  cycle_induct (P := s.StmtsReach) (fun _ _ hu hop => hu.trans (mainOp_reach hop)) (.refl s) ht

/-- A ready core fetches the request at the head of its queue. -/
theorem fetch_request {i : Instr} {rest : List Byte} (hr : s.ready = true)
    (hd : decode .req s.slaveAddr s.rxq = .ok i rest) : fetch s = (i, { s with rxq := rest }) := by
  simp [fetch, (s.ready_iff.mp hr).1, hr, hd]

/-- A request that a ready core fetches is run from the handler's turn on (R60). -/
theorem act_transact_request {i : Instr} {rest : List Byte} (hr : s.ready = true)
    (hd : decode .req s.slaveAddr s.rxq = .ok i rest) :
    act .transact s = cycle cycleLength s.takeNotification := by
  have hbytes := decodeRequest_bytes _ _ _ _ hd
  simp only [act, fetch_request hr hd]
  rw [exec_of_request i (decodeRequest_format _ _ _ _ hd), takeFrame_ready _ { s with rxq := rest } hr, hbytes]

/-- A ready core with a byte in its queue has its handler's turn (R169). -/
theorem act_handler_ready (hr : s.ready = true) (hq : s.rxq ≠ []) : act .handler s = .next s.takeNotification := by
  obtain ⟨-, -, hn, hx⟩ := s.ready_iff.mp hr
  have hready := s.notifyReady_iff.mpr ⟨hn, hx, hq⟩
  simp [act, exec, execDispNotify, hready]

end

/-- Settles O59, operation by operation. -/
theorem mainTurnIsItsStatements : Obligations.MainTurnIsItsStatements :=
  fun s _ ht => mainOp_reach ((exec_selected s).symm.trans ht)

/-- Settles O60: after the handler's turn, a cycle is operations of MAIN, each its statements. -/
theorem requestTurnIsHandlerThenStatements : Obligations.RequestTurnIsHandlerThenStatements := by
  intro s t i rest hr hd ht
  have hq : s.rxq ≠ [] := by
    intro he
    rw [he] at hd
    cases hd
  rw [act_transact_request hr hd] at ht
  obtain ⟨n, hn⟩ := cycle_reach ht
  exact ⟨n, (turns_cons (act_handler_ready hr hq) _).trans hn⟩

end Sys2Proof.Machine

/-! ## The encodings -/

namespace Sys2Proof.Machine

/-! ### The three tests of a request (R77, R78, R170) -/

/-- The CRC test of a request compares both bytes of the trailer, low byte first (R100). -/
theorem requestCrcOk_iff (b0 b1 b2 b3 b4 b5 lo hi : Byte) :
    requestCrcOk b0 b1 b2 b3 b4 b5 lo hi = true ↔
      lo = loByte (crc16 [b0, b1, b2, b3, b4, b5] 6) ∧ hi = hiByte (crc16 [b0, b1, b2, b3, b4, b5] 6) := by
  simp [requestCrcOk]

/-- A request that ends with its own trailer passes the CRC test (R83). -/
@[simp] theorem requestCrcOk_trailer (b0 b1 b2 b3 b4 b5 : Byte) :
    requestCrcOk b0 b1 b2 b3 b4 b5 (loByte (crc16 [b0, b1, b2, b3, b4, b5] 6))
      (hiByte (crc16 [b0, b1, b2, b3, b4, b5] 6)) = true :=
  (requestCrcOk_iff ..).mpr ⟨rfl, rfl⟩

/-- A wrong trailer decides the row whatever the type (R170). -/
theorem requestRow_badCrc {a r1 r2 ty r4 r5 lo hi : Byte} (h : requestCrcOk a r1 r2 ty r4 r5 lo hi = false) :
    requestRow a r1 r2 ty r4 r5 lo hi = .reqBadCrc a r1 r2 ty r4 r5 lo hi := by
  simp [requestRow, h]

theorem requestRow_temp {a r1 r2 ty r4 r5 lo hi : Byte} (h : requestCrcOk a r1 r2 ty r4 r5 lo hi = true)
    (hty : ty = 0x01) : requestRow a r1 r2 ty r4 r5 lo hi = .reqTemp a r1 r2 r4 r5 := by
  simp [requestRow, h, (requestTypeOf_eq_temperature ty).mpr hty]

theorem requestRow_hum {a r1 r2 ty r4 r5 lo hi : Byte} (h : requestCrcOk a r1 r2 ty r4 r5 lo hi = true)
    (hty : ty = 0x02) : requestRow a r1 r2 ty r4 r5 lo hi = .reqHum a r1 r2 r4 r5 := by
  simp [requestRow, h, (requestTypeOf_eq_humidity ty).mpr hty]

theorem requestRow_unk {a r1 r2 ty r4 r5 lo hi : Byte} (h : requestCrcOk a r1 r2 ty r4 r5 lo hi = true)
    (hty : requestTypeOf ty = .unknown) : requestRow a r1 r2 ty r4 r5 lo hi = .reqUnk a r1 r2 ty r4 r5 := by
  simp [requestRow, h, hty]

/-- The row of a frame that begins with the slave address meets its constraint (R77). -/
theorem requestRow_wellFormed (slave r1 r2 ty r4 r5 lo hi : Byte) :
    (requestRow slave r1 r2 ty r4 r5 lo hi).wellFormed slave = true := by
  by_cases hok : requestCrcOk slave r1 r2 ty r4 r5 lo hi = true
  · cases hty : requestTypeOf ty <;> simp [requestRow, hok, hty, Instr.wellFormed]
  · rw [Bool.not_eq_true] at hok
    simp [requestRow_badCrc hok, hok, Instr.wellFormed]

/-! ### The request decoder -/

/-- A foreign first byte is a row of one byte, whatever follows (R77). -/
theorem decodeRequest_other {slave a : Byte} (h : a ≠ slave) (bytes : List Byte) :
    decodeRequest slave (a :: bytes) = .ok (.reqOther a) bytes := by
  simp [decodeRequest, h]

/-- With the slave address in front, the eight bytes of the frame decide the row (R77). -/
theorem decodeRequest_frame (slave r1 r2 ty r4 r5 lo hi : Byte) (rest : List Byte) :
    decodeRequest slave (slave :: r1 :: r2 :: ty :: r4 :: r5 :: lo :: hi :: rest) =
      .ok (requestRow slave r1 r2 ty r4 r5 lo hi) rest := by
  simp [decodeRequest]

/-- A body that begins with the slave address, sent with its trailer, is a frame of the slave (R83). -/
theorem decodeRequest_withTrailer (slave r1 r2 ty r4 r5 : Byte) (rest : List Byte) :
    decodeRequest slave (withTrailer [slave, r1, r2, ty, r4, r5] ++ rest) =
      .ok (requestRow slave r1 r2 ty r4 r5 (loByte (crc16 [slave, r1, r2, ty, r4, r5] 6))
        (hiByte (crc16 [slave, r1, r2, ty, r4, r5] 6))) rest :=
  decodeRequest_frame ..

/-- A well-formed request is read back from its bytes (R71, R77). -/
theorem decodeRequest_encode {slave : Byte} {i : Instr} (hw : i.wellFormed slave = true)
    (hf : formatOf i = some .req) (rest : List Byte) : decodeRequest slave (encode i ++ rest) = .ok i rest := by
  cases i with
  | reqTemp a r1 r2 r4 r5 =>
    obtain rfl : a = slave := by simpa [Instr.wellFormed] using hw
    rw [encode, decodeRequest_withTrailer, requestRow_temp (requestCrcOk_trailer ..) rfl]
  | reqHum a r1 r2 r4 r5 =>
    obtain rfl : a = slave := by simpa [Instr.wellFormed] using hw
    rw [encode, decodeRequest_withTrailer, requestRow_hum (requestCrcOk_trailer ..) rfl]
  | reqUnk a r1 r2 ty r4 r5 =>
    obtain ⟨rfl, hty⟩ : a = slave ∧ requestTypeOf ty = .unknown := by simpa [Instr.wellFormed] using hw
    rw [encode, decodeRequest_withTrailer, requestRow_unk (requestCrcOk_trailer ..) hty]
  | reqBadCrc a r1 r2 ty r4 r5 lo hi =>
    obtain ⟨rfl, hbad⟩ : a = slave ∧ requestCrcOk a r1 r2 ty r4 r5 lo hi = false := by
      simpa [Instr.wellFormed] using hw
    rw [← requestRow_badCrc hbad, encode_requestRow]
    exact decodeRequest_frame ..
  | reqOther a => exact decodeRequest_other (by simpa [Instr.wellFormed] using hw) rest
  | _ => cases hf

/-- What decodes in the receive queue meets its row's constraint (R77). -/
theorem decodeRequest_wellFormed (slave : Byte) (bytes rest : List Byte) (i : Instr)
    (h : decodeRequest slave bytes = .ok i rest) : i.wellFormed slave = true := by
  unfold decodeRequest at h
  split at h
  · cases h
  · split at h
    · rename_i ha
      subst ha
      split at h
      · cases h
        exact requestRow_wellFormed ..
      · cases h
    · rename_i ha
      cases h
      simpa [Instr.wellFormed] using ha

/-! ### The response and the stream -/

/-- The one row of the response format (R72). -/
theorem exists_of_formatOf_rsp {i : Instr} (hf : formatOf i = some .rsp) : ∃ a v, i = .rspValue a v := by
  cases i with
  | rspValue a v => exact ⟨a, v, rfl⟩
  | _ => cases hf

/-- The one row of the stream format (R73). -/
theorem exists_of_formatOf_str {i : Instr} (hf : formatOf i = some .str) : ∃ h t c, i = .strData h t c := by
  cases i with
  | strData h t c => exact ⟨h, t, c, rfl⟩
  | _ => cases hf

/-- The bytes of a response: its body and its CRC, low byte first (R72, R102). -/
theorem encode_rspValue (a : Byte) (v : Word) :
    encode (.rspValue a v) =
      [a, funcCode, byteCount, hiByte v, loByte v, loByte (crc16 (responseBody a v) 5),
        hiByte (crc16 (responseBody a v) 5)] := rfl

/-- Exactly the encodings of responses decode as responses (R72). -/
theorem decodeResponse_eq_ok {bytes rest : List Byte} {i : Instr} :
    decodeResponse bytes = .ok i rest ↔ ∃ a v, i = .rspValue a v ∧ encode i ++ rest = bytes := by
  constructor
  · intro h
    unfold decodeResponse at h
    split at h
    · rename_i a f n vh vl lo hi rest'
      split at h
      · rename_i hconst
        obtain ⟨rfl, rfl⟩ := hconst
        dsimp only at h
        split at h
        · rename_i htrailer
          obtain ⟨rfl, rfl⟩ := htrailer
          cases h
          exact ⟨a, joinBytes vh vl, rfl, by simp [encode_rspValue, responseBody]⟩
        · cases h
      · cases h
    · cases h
  · rintro ⟨a, v, rfl, rfl⟩
    simp [encode_rspValue, decodeResponse, responseBody]

/-- Exactly the encodings of streams decode as streams (R73). -/
theorem decodeStream_eq_ok {bytes rest : List Byte} {i : Instr} :
    decodeStream bytes = .ok i rest ↔ ∃ h t c, i = .strData h t c ∧ encode i ++ rest = bytes := by
  constructor
  · intro h
    unfold decodeStream at h
    split at h
    · rename_i hh hl th tl ck rest'
      cases h
      exact ⟨joinBytes hh hl, joinBytes th tl, ck, rfl, by simp [encode, streamBytes]⟩
    · cases h
  · rintro ⟨h, t, c, rfl, rfl⟩
    simp [encode, streamBytes, decodeStream]

/-! ### The round trips (R71 to R73) -/

/-- Settles O1, format by format. -/
theorem encodeThenDecodeGivesTheRow : Obligations.EncodeThenDecodeGivesTheRow := by
  intro slave i f rest hw hf
  cases f with
  | req => exact decodeRequest_encode hw hf rest
  | rsp =>
    obtain ⟨a, v, rfl⟩ := exists_of_formatOf_rsp hf
    exact decodeResponse_eq_ok.mpr ⟨a, v, rfl, rfl⟩
  | str =>
    obtain ⟨h, t, c, rfl⟩ := exists_of_formatOf_str hf
    exact decodeStream_eq_ok.mpr ⟨h, t, c, rfl, rfl⟩

/-- Settles O2, format by format. -/
theorem decodedBytesHaveOneMeaning : Obligations.DecodedBytesHaveOneMeaning := by
  intro slave f bytes rest i h
  cases f with
  | req =>
    exact ⟨decodeRequest_wellFormed _ _ _ _ h, decodeRequest_format _ _ _ _ h, decodeRequest_bytes _ _ _ _ h⟩
  | rsp =>
    obtain ⟨a, v, rfl, hbytes⟩ := decodeResponse_eq_ok.mp h
    exact ⟨rfl, rfl, hbytes⟩
  | str =>
    obtain ⟨hu, te, ck, rfl, hbytes⟩ := decodeStream_eq_ok.mp h
    exact ⟨rfl, rfl, hbytes⟩

/-- Settles O4: test 1 on the first byte, then the row of the frame by tests 2 and 3. -/
theorem requestTestsAreMadeInOrder : Obligations.RequestTestsAreMadeInOrder := by
  intro slave a r1 r2 ty r4 r5 lo hi rest c frame
  have hcrc : requestCrcOk a r1 r2 ty r4 r5 lo hi = true ↔ lo = loByte c ∧ hi = hiByte c := requestCrcOk_iff ..
  have hframe : a = slave → decode .req slave frame = .ok (requestRow a r1 r2 ty r4 r5 lo hi) rest := by
    rintro rfl
    exact decodeRequest_frame ..
  refine ⟨fun bytes ha => decodeRequest_other ha bytes, fun ha hbad => ?_, fun ha hlo hhi hty => ?_,
    fun ha hlo hhi hty => ?_, fun ha hlo hhi h1 h2 => ?_⟩
  · rw [hframe ha, requestRow_badCrc (Bool.eq_false_iff.mpr (mt hcrc.mp hbad))]
  · rw [hframe ha, requestRow_temp (hcrc.mpr ⟨hlo, hhi⟩) hty]
  · rw [hframe ha, requestRow_hum (hcrc.mpr ⟨hlo, hhi⟩) hty]
  · rw [hframe ha, requestRow_unk (hcrc.mpr ⟨hlo, hhi⟩) ((requestTypeOf_eq_unknown ty).mpr ⟨h1, h2⟩)]

/-- Settles O3, word by word. -/
theorem tableWordsDecode : Obligations.TableWordsDecode := by
  refine ⟨?_, ?_, ?_, ?_, ?_, ?_, ?_, ?_⟩ <;> decide +kernel

/-! ### The transmitted response (R118) -/

/-- A sending run from its start transmits `RSP`, byte 0 first, and goes to the pace (R118). -/
theorem State.send_start {s : State} (hs : s.sub = 0) :
    s.send = { s with txlog := s.txlog ++ s.rsp.toList, byteIdx := 7, mseq := .pace, sub := 0 } := by
  have hrsp : ((List.range' 0 7).map fun i => s.rsp[i]?.getD 0) = s.rsp.toList := by
    apply List.ext_getElem
    · simp
    · intro i hi _
      have h7 : i < 7 := by simpa using hi
      simp [h7]
  have hbegin : s.beginSend = { s with byteIdx := 0, sub := 1 } := by simp [State.beginSend, hs]
  rw [State.send, State.sendBytes_eq, hbegin]
  simp only [Nat.sub_zero, hrsp]
  rfl

/-- Settles O42: the response is built, and sent from its start. -/
theorem responseIsTransmitted : Obligations.ResponseIsTransmitted := by
  intro a v s c bytes
  refine ⟨encode_rspValue a v, 7, ?_⟩
  rw [exec, execRspValue, State.send_start rfl]
  rfl

/-! ### The row a turn runs -/

/-- A slice of a slice is a slice. -/
theorem extractLsb'_extractLsb' {w n : Nat} (x : BitVec w) (i j : Nat) {m : Nat} (h : j + m ≤ n) :
    (x.extractLsb' i n).extractLsb' j m = x.extractLsb' (i + j) m := by
  ext k hk
  simp [show j + k < n by omega, Nat.add_assoc]

/-- Five wire bytes of a stream are the bytes of its three fields (R50, R82). -/
theorem wireBytes_stream (s : SensorBits) :
    wireBytes 5 s.toNat = streamBytes (streamHum s) (streamTmp s) (streamChk s) := by
  have hbytes : wireBytes 5 s.toNat =
      [s.extractLsb' 32 8, s.extractLsb' 24 8, s.extractLsb' 16 8, s.extractLsb' 8 8, s.extractLsb' 0 8] := rfl
  rw [hbytes]
  simp [streamBytes, hiByte, loByte, streamHum, streamTmp, streamChk, extractLsb'_extractLsb']

/-- A driver with forty bits sampled fetches them as a stream row. -/
theorem fetch_stream {s : State} (hm : s.mseq = .sample) (hd : s.sdseq = .data .asm) :
    fetch s = (.strData (streamHum s.sbit) (streamTmp s.sbit) (streamChk s.sbit), s) := by
  have hdec : decode .str s.slaveAddr (wireBytes 5 s.sbit.toNat) =
      .ok (.strData (streamHum s.sbit) (streamTmp s.sbit) (streamChk s.sbit)) [] := by
    rw [wireBytes_stream]
    exact decodeStream_eq_ok.mpr ⟨_, _, _, rfl, rfl⟩
  simp [fetch, hm, hd, hdec]

/-- At `M_ENCODE` the response that is due is fetched. -/
theorem fetch_response {s : State} (hm : s.mseq = .encode) : fetch s = (.rspValue s.req[0] s.value, s) := by
  simp [fetch, hm]

/-- Settles O44: the due turn is taken off the stimulus, and what `fetch` finds is run. -/
theorem stepRunsTheDecodedRow : Obligations.StepRunsTheDecodedRow := by
  intro s ts hs
  have hstep : step s = act .transact { s with sched := ts } := step_of_sched hs
  refine ⟨fun i rest hr hd => ?_, fun hm hd => ?_, fun hm => ?_⟩
  · rw [hstep, act, fetch_request (s := { s with sched := ts }) hr hd]
  · rw [hstep, act, fetch_stream (s := { s with sched := ts }) hm hd]
  · rw [hstep, act, fetch_response (s := { s with sched := ts }) hm]

end Sys2Proof.Machine

/-! ## The CRC16 Engine -/

namespace Sys2Proof.Machine

/-! ### A word by its halves -/

@[simp] theorem getElem_hiByte (w : Word) (i : Nat) (h : i < 8) : (hiByte w)[i] = w[8 + i] := by
  simp [hiByte, BitVec.getLsbD_eq_getElem, show 8 + i < 16 by omega]

@[simp] theorem getElem_loByte (w : Word) (i : Nat) (h : i < 8) : (loByte w)[i] = w[i] := by
  simp [loByte, BitVec.getLsbD_eq_getElem, show i < 16 by omega]

/-- The word moved down by a byte is its high byte. -/
theorem ushiftRight_eight (w : Word) : w >>> 8 = (hiByte w).zeroExtend 16 := by
  ext i hi
  by_cases h : i < 8
  · simp [h, BitVec.getLsbD_eq_getElem, show 8 + i < 16 by omega]
  · simp [getLsbD_hiByte, h, BitVec.getLsbD_of_ge w (8 + i) (by omega)]

/-- The low byte of the word moved down by a byte is its high byte. -/
theorem loByte_ushiftRight_eight (w : Word) : loByte (w >>> 8) = hiByte w := by
  ext i hi
  simp [loByte, hiByte]

/-- Nothing is left of a word moved down by two bytes. -/
theorem ushiftRight_eight_eight (w : Word) : w >>> 8 >>> 8 = 0 := by
  rw [← BitVec.shiftRight_add]
  exact BitVec.ushiftRight_eq_zero (by decide)

/-- The halves of a word, put side by side. -/
theorem hiByte_xor_loByte (w : Word) :
    (hiByte w).zeroExtend 16 <<< 8 ^^^ (loByte w).zeroExtend 16 = w := by
  ext i hi
  by_cases h : i < 8
  · simp [h]
  · simp [getLsbD_loByte, h, show i - 8 < 8 by omega, show 8 + (i - 8) = i by omega]

/-- A byte meets the low half of the register only. -/
theorem loByte_xor_zeroExtend (c : Word) (b : Byte) : loByte (c ^^^ b.zeroExtend 16) = loByte c ^^^ b := by
  have hb : loByte (b.zeroExtend 16) = b := by
    ext i hi
    simp [hi]
  rw [loByte_xor, hb]

theorem ushiftRight_eight_xor_zeroExtend (c : Word) (b : Byte) : (c ^^^ b.zeroExtend 16) >>> 8 = c >>> 8 := by
  have hb : b.zeroExtend 16 >>> 8 = 0#16 := by
    ext i hi
    simp
  rw [BitVec.ushiftRight_xor_distrib, hb, BitVec.xor_zero]

/-! ### The step -/

/-- Eight shifts move the high byte down and look the low byte up (R92). -/
theorem crcShifts_eight (w : Word) : crcShifts 8 w = (w >>> 8) ^^^ tab (loByte w) := by
  calc crcShifts 8 w
      = crcShifts 8 ((hiByte w).zeroExtend 16 <<< 8 ^^^ (loByte w).zeroExtend 16) := by rw [hiByte_xor_loByte]
    _ = (hiByte w).zeroExtend 16 ^^^ tab (loByte w) := by rw [crcShifts_xor, crcShifts_high, tab]
    _ = (w >>> 8) ^^^ tab (loByte w) := by rw [ushiftRight_eight]

/-- One step of R95 is the byte into the low half and eight shifts (R93). -/
theorem crcStep_eq_crcShifts (c : Word) (b : Byte) : crcStep c b = crcShifts 8 (c ^^^ b.zeroExtend 16) := by
  rw [crcShifts_eight, ushiftRight_eight_xor_zeroExtend, loByte_xor_zeroExtend, crcStep]

/-- The register's own low byte cancels it: the high byte is what is left. -/
theorem crcStep_loByte (c : Word) : crcStep c (loByte c) = c >>> 8 := by
  have htab : tab 0#8 = 0#16 := by decide
  rw [crcStep, BitVec.xor_self, htab, BitVec.xor_zero]

/-- The register's own two bytes, low byte first, leave zero. -/
theorem crcStep_loByte_hiByte (c : Word) : crcStep (crcStep c (loByte c)) (hiByte c) = 0 := by
  rw [crcStep_loByte, ← loByte_ushiftRight_eight, crcStep_loByte, ushiftRight_eight_eight]

/-! ### The computation -/

/-- Settles O5, step by step: the folds are of the same function. -/
theorem crcEqualsBitSerialForm : Obligations.CrcEqualsBitSerialForm := by
  intro bytes n
  have hstep : crcStep = fun c b => crcShifts 8 (c ^^^ b.zeroExtend 16) := by
    funext c b
    exact crcStep_eq_crcShifts c b
  rw [crc16, hstep, crcInit]

/-- Settles O6: the trailer is the two bytes that cancel the register after the string. -/
theorem crcOfFrameWithTrailerIsZero : Obligations.CrcOfFrameWithTrailerIsZero := by
  intro m
  have hlo := crc16_snoc m (loByte (crc16 m m.length))
  have hhi := crc16_snoc (m ++ [loByte (crc16 m m.length)]) (hiByte (crc16 m m.length))
  rw [List.length_append, List.length_singleton, hlo, crcStep_loByte_hiByte, List.append_assoc] at hhi
  exact hhi

/-! ### The instruction -/

theorem exec_crc16Compute_of_le {bytes : List Byte} {length : Nat} (h : length ≤ bytes.length) (s : State) :
    exec (.crc16Compute bytes length) s = .next { s with crc := crc16 bytes length, byteIdx := length } := by
  rw [exec, execCrc16Compute, if_pos h, State.computeCrc]

theorem exec_crc16Compute_of_lt {bytes : List Byte} {length : Nat} (h : bytes.length < length) (s : State) :
    exec (.crc16Compute bytes length) s = .refused .crcLengthBeyondBytes := by
  rw [exec, execCrc16Compute, if_neg (Nat.not_le.mpr h)]

/-- Settles O8: the fold's function is the step, its index the low byte of the exclusive-or (R95). -/
theorem crcComputeFoldsFromFFFF : Obligations.CrcComputeFoldsFromFFFF := by
  intro bytes length s h
  have hstep : crcStep =
      fun (c : Word) (b : Byte) => (c >>> 8) ^^^ tab (BitVec.extractLsb' 0 8 (c ^^^ b.zeroExtend 16)) := by
    funext c b
    rw [← loByte, loByte_xor_zeroExtend, crcStep]
  exact ⟨length, by rw [exec_crc16Compute_of_le h, crc16, hstep, crcInit]⟩

/-- Settles O9: each of the three operations tests its operand first. -/
theorem operandsWithoutMeaningAreRefused : Obligations.OperandsWithoutMeaningAreRefused := by
  refine ⟨fun bytes length s h => exec_crc16Compute_of_lt h s, fun s => ?_, fun s h => ?_⟩
  · rw [exec, execSeSampleMedian, if_pos rfl]
  · rw [exec, execMainSampleStep, if_pos h]

end Sys2Proof.Machine

/-! ## The Frame Codec -/

namespace Sys2Proof.Machine

/-! ### The engine loses nothing (R104) -/

theorem crcShifts_eq_zero (k : Nat) (c : Word) (h : crcShifts k c = 0) : c = 0 := by
  induction k generalizing c with
  | zero => exact h
  | succ k ih => exact crcShift_eq_zero c (ih _ h)

/-- Shifting is injective, being linear with kernel zero. -/
theorem crcShifts_inj {k : Nat} {c d : Word} : crcShifts k c = crcShifts k d ↔ c = d := by
  refine ⟨fun h => ?_, congrArg _⟩
  have hker : crcShifts k (c ^^^ d) = 0 := by rw [crcShifts_xor, h]; exact BitVec.xor_self
  exact BitVec.xor_eq_zero_iff.mp (crcShifts_eq_zero k _ hker)

/-- From one register, two bytes step to the same word only if they are the same: what they meet is its low byte. -/
theorem crcStep_byte_inj {c : Word} {a b : Byte} : crcStep c a = crcStep c b ↔ a = b := by
  rw [crcStep_eq_crcShifts, crcStep_eq_crcShifts, crcShifts_inj]
  refine ⟨fun h => ?_, fun h => by rw [h]⟩
  have hlo := congrArg loByte h
  rw [loByte_xor_zeroExtend, loByte_xor_zeroExtend] at hlo
  exact (BitVec.xor_right_inj _).mp hlo

/-- The same byte steps two registers to the same word only if they are the same. -/
theorem crcStep_register_inj {c d : Word} {b : Byte} : crcStep c b = crcStep d b ↔ c = d := by
  rw [crcStep_eq_crcShifts, crcStep_eq_crcShifts, crcShifts_inj, BitVec.xor_left_inj]

/-- No run of bytes makes two registers meet. -/
theorem foldl_crcStep_inj (bytes : List Byte) {c d : Word} :
    bytes.foldl crcStep c = bytes.foldl crcStep d ↔ c = d := by
  induction bytes generalizing c d with
  | nil => rfl
  | cons b bytes ih => exact ih.trans crcStep_register_inj

/-- A computation that reads on past a byte starts from the step on it. -/
theorem crc16_middle (pre post : List Byte) (b : Byte) (n : Nat) :
    crc16 (pre ++ b :: post) (pre.length + (n + 1)) =
      (post.take n).foldl crcStep (crcStep (pre.foldl crcStep crcInit) b) := by
  simp [crc16, List.take_length_add_append]

/-- Two strings that agree but at one place that is read have the same CRC only if they agree there too. -/
theorem crc16_middle_inj (pre post : List Byte) {a b : Byte} (n : Nat) :
    crc16 (pre ++ a :: post) (pre.length + (n + 1)) = crc16 (pre ++ b :: post) (pre.length + (n + 1)) ↔ a = b := by
  rw [crc16_middle, crc16_middle, foldl_crcStep_inj, crcStep_byte_inj]

/-- An inverted bit is a changed byte. -/
theorem xor_twoPow_ne (b : Byte) {j : Nat} (hj : j < 8) : b ^^^ BitVec.twoPow 8 j ≠ b := by
  intro h
  have hbit := congrArg (·.getLsbD j) h
  simp [hj] at hbit

/-- Settles O7: the string's other bytes, before and after, keep the two bytes apart. -/
theorem crcSeparatesFramesOneBitApart : Obligations.CrcSeparatesFramesOneBitApart :=
  fun pre post b _ hj => (crc16_middle_inj pre post post.length).not.mpr (xor_twoPow_ne b hj)

/-- A changed byte among the first `n` changes the CRC over `n` bytes. -/
theorem crc16_set_inj {bytes : List Byte} {k n : Nat} (hk : k < bytes.length) (hn : k < n) {x : Byte} :
    crc16 (bytes.set k x) n = crc16 bytes n ↔ x = bytes[k] := by
  have hsplit : bytes = bytes.take k ++ bytes[k] :: bytes.drop (k + 1) := by simp
  have hlen : n = (bytes.take k).length + ((n - k - 1) + 1) := by rw [List.length_take_of_le hk.le]; omega
  rw [List.set_eq_take_cons_drop x hk, ← crc16_middle_inj (bytes.take k) (bytes.drop (k + 1)) (n - k - 1), ← hlen,
    ← hsplit]

/-! ### The test of a request (R100) -/

theorem crcOkOf_iff (req : Vector Byte 8) (c : Word) :
    crcOkOf req c = true ↔ req[6] = loByte c ∧ req[7] = hiByte c := by
  simp [crcOkOf]

/-- `FC.validate` leaves the engine's word over the frame and the test of the trailer against it. -/
theorem exec_fcValidate (s : State) :
    exec .fcValidate s =
      .next { s with
        crc := crc16 s.req.toList 6
        byteIdx := 6
        crcOk := crcOkOf s.req (crc16 s.req.toList 6) } := by
  rw [exec, execFcValidate, State.validate_eq]

/-- The engine reads bytes 0 to 5 of the frame. -/
theorem crc16_request (req : Vector Byte 8) :
    crc16 req.toList 6 = crc16 [req[0], req[1], req[2], req[3], req[4], req[5]] 6 := by
  obtain ⟨⟨bytes⟩, hsize⟩ := req
  match bytes, hsize with
  | [_, _, _, _, _, _, _, _], _ => rfl

/-- Settles O10: the test is the comparison of both bytes, and the engine's input is bytes 0 to 5. -/
theorem validateComparesTheTrailer : Obligations.ValidateComparesTheTrailer := by
  intro s c
  have hok : crcOkOf s.req c = decide (s.req[6] = loByte c ∧ s.req[7] = hiByte c) :=
    Bool.eq_iff_iff.mpr ((crcOkOf_iff s.req c).trans decide_eq_true_iff.symm)
  exact ⟨6, by rw [exec_fcValidate, crc16_request, hok, loByte, hiByte]⟩

/-- A trailer fits one word only. -/
theorem crcOkOf_word_unique {req req' : Vector Byte 8} {c d : Word} (h6 : req[6] = req'[6]) (h7 : req[7] = req'[7])
    (hc : crcOkOf req c = true) (hd : crcOkOf req' d = true) : c = d := by
  obtain ⟨hlo, hhi⟩ := (crcOkOf_iff req c).mp hc
  obtain ⟨hlo', hhi'⟩ := (crcOkOf_iff req' d).mp hd
  rw [← joinBytes_hi_lo c, ← joinBytes_hi_lo d, ← hlo, ← hhi, ← hlo', ← hhi', h6, h7]

/-- A changed byte among the first six is seen: the trailer, untouched, fits the old CRC only. -/
theorem crcOkOf_set_eq_false (req : Vector Byte 8) (k : Fin 6) {x : Byte} (hx : x ≠ req[k])
    (hok : crcOkOf req (crc16 req.toList 6) = true) :
    crcOkOf (req.set k x) (crc16 (req.set k x).toList 6) = false := by
  rw [← Bool.not_eq_true]
  intro hset
  have hcrc : crc16 (req.set k x).toList 6 = crc16 req.toList 6 :=
    crcOkOf_word_unique (Vector.getElem_set_ne _ _ (by omega)) (Vector.getElem_set_ne _ _ (by omega)) hset hok
  rw [Vector.toList_set, crc16_set_inj (by simp; omega) k.isLt] at hcrc
  exact hx hcrc

/-- Settles O11: the inverted bit is a changed byte among the first six. -/
theorem validateDetectsSingleBitErrors : Obligations.ValidateDetectsSingleBitErrors := by
  intro s k j hj hlo hhi
  have hok : crcOkOf s.req (crc16 s.req.toList 6) = true := (crcOkOf_iff ..).mpr ⟨hlo, hhi⟩
  exact ⟨⟨_, exec_fcValidate s, hok⟩, _, exec_fcValidate _, crcOkOf_set_eq_false s.req k (xor_twoPow_ne _ hj) hok⟩

/-! ### The type (R101) and the response (R102, R103) -/

/-- Settles O12: the type is the code of byte 3. -/
theorem requestTypeIsReadFromByteThree : Obligations.RequestTypeIsReadFromByteThree := by
  intro s
  rw [exec, execFcDecodeRequestType, State.decodeType, requestTypeOf]

theorem exec_fcEncodeResponse (a : Byte) (v : Word) (s : State) :
    exec (.fcEncodeResponse a v) s =
      .next { s with crc := crc16 (responseBody a v) 5, byteIdx := 5, rsp := responseFrame a v } := by
  rw [exec, execFcEncodeResponse, State.encodeResponse_eq]

/-- Settles O13: the frame is the body with the word of its CRC, taken apart. -/
theorem encodeResponseBuildsTheFrame : Obligations.EncodeResponseBuildsTheFrame := by
  intro a v s c
  exact ⟨5, exec_fcEncodeResponse a v s⟩

/-- Settles O14: the first five bytes are the body, and the last two are the halves of its CRC. -/
theorem encodedResponseIsValid : Obligations.EncodedResponseIsValid := by
  intro a v s
  refine ⟨_, exec_fcEncodeResponse a v s, ?_⟩
  calc crc16 (responseFrame a v).toList 5
      = crc16 (responseBody a v) 5 := rfl
    _ = joinBytes (responseFrame a v)[6] (responseFrame a v)[5] := (joinBytes_hi_lo _).symm

end Sys2Proof.Machine

/-! ## The Dispatcher's operations, each from its start -/

namespace Sys2Proof.Machine

/-! ### The handler and the poll (R110, R111) -/

/-- Settles O15: the notification is ready, and the handler takes the oldest byte. -/
theorem handlerClassifiesOneByte : Obligations.HandlerClassifiesOneByte := by
  intro s b q hn hx hq
  have hready : s.notifyReady = true := s.notifyReady_iff.mpr ⟨hn, hx, by simp [hq]⟩
  rw [exec, execDispNotify, if_pos hready, s.takeNotification_cons b q hq, classify]

/-- Settles O17: the branch's target is a table over `DSTATE`. -/
theorem pollReadsAndResetsDispatchState : Obligations.PollReadsAndResetsDispatchState := by
  intro s
  rw [exec, execMainPoll, s.poll_eq]
  cases s.dstate <;> rfl

/-- An empty queue leaves the handler nothing to take (R169). -/
theorem execDispNotify_of_empty {s : State} (hq : s.rxq = []) : execDispNotify s = .next s := by
  have hready : ¬ s.notifyReady = true := fun h => (s.notifyReady_iff.mp h).2.2 hq
  rw [execDispNotify, if_neg hready]

/-- A poll that finds nothing classified leaves a core at its poll as it was (R111). -/
theorem State.poll_of_idle {s : State} (hm : s.mseq = .poll) (hd : s.dstate = .idle) (hs : s.sub = 0) : s.poll = s := by
  have hself : ({ s with dstate := .idle, mseq := .poll, sub := 0 } : State) = s := by rw [← hd, ← hm, ← hs]
  rw [s.poll_eq, hd]
  exact hself

theorem mainStmt_poll {s : State} (hm : s.mseq = .poll) : mainStmt s = .next s.poll := by simp [mainStmt, hm]

/-- Settles O49: the handler has nothing to take, nothing decodes in an empty queue, and the poll finds nothing. -/
theorem quiescentCoreOnlyPolls : Obligations.QuiescentCoreOnlyPolls := by
  rintro s u ts ⟨hm, hd, hn, hx, -, hq⟩ hs hsched hmaster hreset
  rw [step_of_sched hsched]
  have hpoll : exec .mainPoll { s with sched := ts } = .next { s with sched := ts } :=
    congrArg Host.Outcome.next (State.poll_of_idle hm hd hs)
  have hsel : selected { s with sched := ts } = .mainPoll := by simp [selected, hm]
  cases u with
  | master b => exact absurd rfl (hmaster b)
  | handler => exact execDispNotify_of_empty hq
  | stmt => exact (mainStmt_poll (s := { s with sched := ts }) hm).trans hpoll
  | main => rw [act, hsel, hpoll]
  | transact =>
    have hfetch : fetch { s with sched := ts } = (.mainPoll, { s with sched := ts }) := by
      simp [fetch, hm, hq, decode, decodeRequest, selected]
    rw [act, hfetch, hpoll]
  | reset => exact absurd rfl hreset

/-! ### The reading (R112) -/

/-- Seven bytes stored in a row at 1 to 7 leave byte 0 alone of what was there. -/
theorem setIfInBounds_one_to_seven (v : Vector Byte 8) (b1 b2 b3 b4 b5 b6 b7 : Byte) :
    ((((((v.setIfInBounds 1 b1).setIfInBounds 2 b2).setIfInBounds 3 b3).setIfInBounds 4 b4).setIfInBounds 5
      b5).setIfInBounds 6 b6).setIfInBounds 7 b7 = #v[v[0], b1, b2, b3, b4, b5, b6, b7] := by
  obtain ⟨⟨bytes⟩, hsize⟩ := v
  match bytes, hsize with
  | [_, _, _, _, _, _, _, _], _ => rfl

/-- With its seven bytes queued a reading from its start fills `REQ[1..7]` and goes on (R112). -/
theorem State.readFrame_seven {s : State} {b1 b2 b3 b4 b5 b6 b7 : Byte} {q : List Byte} (hs : s.sub = 0)
    (hq : s.rxq = b1 :: b2 :: b3 :: b4 :: b5 :: b6 :: b7 :: q) :
    s.readFrame =
      { s with
        req := #v[s.req[0], b1, b2, b3, b4, b5, b6, b7], rxq := q, byteIdx := 8, mseq := .indOn, sub := 0 } := by
  rw [State.readFrame_start hs, State.beginRead_start hs, ← setIfInBounds_one_to_seven]
  simp [State.readBytes, State.rxRead, hq, State.endRead, State.goto]

/-- Settles O18: the loop's seven passes find their bytes. -/
theorem readFrameTakesSevenBytes : Obligations.ReadFrameTakesSevenBytes := by
  intro s b1 b2 b3 b4 b5 b6 b7 q hs hq
  exact ⟨8, by rw [exec, execMainReadFrame, State.readFrame_seven hs hq]⟩

/-! ### The indicator and the re-arming (R113, R119) -/

theorem runStmts_indicatorOn_start {s : State} (hs : s.sub = 0) :
    runStmts indicatorOnStmts s = { s with indicator := true, mseq := .validate, sub := 0 } := by
  rw [runStmts_zero _ s hs]
  rfl

/-- Settles O20: the write of the indicator, and the transition. -/
theorem indicatorGoesOnAfterTheRead : Obligations.IndicatorGoesOnAfterTheRead := by
  intro s hs
  rw [exec, execMainIndicatorOn, runStmts_indicatorOn_start hs]

theorem runStmts_rearm_start {s : State} (hs : s.sub = 0) :
    runStmts rearmStmts s = { s with notifyEn := true, mseq := .poll, sub := 0 } := by
  rw [runStmts_zero _ s hs]
  rfl

theorem execMainPaceRearm_pace {s : State} (hm : s.mseq = .pace) :
    execMainPaceRearm s =
      .next { s with notifyEn := true, mseq := .poll, sub := 0, trace := s.trace ++ [.delay .pace] } := by
  rw [execMainPaceRearm, if_neg (by simp [hm]), runStmts_rearm_start rfl]
  rfl

theorem execMainPaceRearm_rearm {s : State} (hm : s.mseq = .rearm) (hs : s.sub = 0) :
    execMainPaceRearm s = .next { s with notifyEn := true, mseq := .poll, sub := 0 } := by
  rw [execMainPaceRearm, if_pos hm, runStmts_rearm_start hs]

/-- Settles O26, from each of the two places. -/
theorem paceRearmEnablesTheNotification : Obligations.PaceRearmEnablesTheNotification := by
  intro s hs
  refine ⟨fun hm => ?_, fun hm => ?_⟩
  · rw [exec, execMainPaceRearm_pace hm, ← hs]
  · rw [exec, execMainPaceRearm_rearm hm hs, ← hs]

/-! ### The two tests (R114, R115) -/

/-- A valid frame is accepted (R114). -/
theorem State.validateStep_valid {s : State} (h : s.frameValid) :
    s.validateStep =
      { s with crc := crc16 s.req.toList 6, byteIdx := 6, crcOk := true, mseq := .decode, sub := 0 } := by
  have hok : crcOkOf s.req (crc16 s.req.toList 6) = true := (crcOkOf_iff ..).mpr h
  rw [State.validateStep, s.validate_eq, hok]
  rfl

/-- An invalid one raises its event and its diagnostic, and is discarded (R114). -/
theorem State.validateStep_invalid {s : State} (h : ¬ s.frameValid) :
    s.validateStep =
      ({ s with
        crc := crc16 s.req.toList 6
        byteIdx := 6
        crcOk := false
        trace := s.trace ++ [.event (.crcMismatch s.req), .diag .crcMismatch] } : State).discard := by
  have hok : crcOkOf s.req (crc16 s.req.toList 6) = false := Bool.eq_false_iff.mpr (mt (crcOkOf_iff ..).mp h)
  rw [State.validateStep, s.validate_eq, hok]
  simp [State.branchOnCrc, State.raise, State.diag, State.log]

/-- Settles O21: the frame is valid, or not. -/
theorem validateStepAcceptsOrDiscards : Obligations.ValidateStepAcceptsOrDiscards := by
  intro s c
  refine ⟨6, congrArg Host.Outcome.next ?_⟩
  by_cases h : s.req[6] = loByte c ∧ s.req[7] = hiByte c
  · rw [if_pos h, State.validateStep_valid h]
  · rw [if_neg h, State.validateStep_invalid h, State.discard_eq]

/-- A known type goes to the sampling (R115). -/
theorem State.decodeStep_known {s : State} {ty : ReqType} (hty : requestTypeOf s.req[3] = ty) (hk : ty ≠ .unknown) :
    s.decodeStep = { s with rtype := ty, mseq := .sample, sub := 0 } := by
  rw [State.decodeStep, State.branchOnType, if_neg (by simpa [State.decodeType, hty] using hk), State.decodeType, hty]
  rfl

/-- An unknown type raises its event and is discarded (R115). -/
theorem State.decodeStep_unknown {s : State} (hty : requestTypeOf s.req[3] = .unknown) :
    s.decodeStep =
      ({ s with
        rtype := .unknown
        trace := s.trace ++ [.event (.unknownType s.req[3])] } : State).discard := by
  rw [State.decodeStep, State.branchOnType, if_pos (show s.decodeType.rtype = .unknown from hty), State.decodeType, hty]
  rfl

/-- Settles O22: byte 3 is one of the two codes, or neither. -/
theorem decodeStepSamplesOrDiscards : Obligations.DecodeStepSamplesOrDiscards := by
  intro s
  refine congrArg Host.Outcome.next ?_
  by_cases h1 : s.req[3] = 0x01
  · rw [if_pos h1, State.decodeStep_known ((requestTypeOf_eq_temperature _).mpr h1) nofun]
  · by_cases h2 : s.req[3] = 0x02
    · rw [if_neg h1, if_pos h2, State.decodeStep_known ((requestTypeOf_eq_humidity _).mpr h2) nofun]
    · rw [if_neg h1, if_neg h2, State.decodeStep_unknown ((requestTypeOf_eq_unknown _).mpr ⟨h1, h2⟩), State.discard_eq]

/-! ### The response (R117, R118) -/

theorem State.encodeStep_eq (s : State) :
    s.encodeStep =
      { s with
        rsp := responseFrame s.req[0] s.value
        crc := crc16 (responseBody s.req[0] s.value) 5
        byteIdx := 5
        mseq := .send
        sub := 0 } := rfl

/-- Settles O24: the response is built, and MAIN goes on. -/
theorem encodeStepBuildsTheResponse : Obligations.EncodeStepBuildsTheResponse := by
  intro s
  exact ⟨5, by rw [exec, execMainEncodeStep, s.encodeStep_eq]⟩

/-- The response buffer by its bytes. -/
theorem toList_rsp (rsp : Vector Byte 7) : rsp.toList = [rsp[0], rsp[1], rsp[2], rsp[3], rsp[4], rsp[5], rsp[6]] := by
  obtain ⟨⟨bytes⟩, hsize⟩ := rsp
  match bytes, hsize with
  | [_, _, _, _, _, _, _], _ => rfl

/-- Settles O25: a sending from its start transmits the buffer. -/
theorem sendAppendsTheSevenBytes : Obligations.SendAppendsTheSevenBytes := by
  intro s hs
  exact ⟨7, by rw [exec, execMainSend, State.send_start hs, toList_rsp]⟩

/-! ### The mismatch path (R120, R124) -/

theorem runStmts_mismatch_start {s : State} (hs : s.sub = 0) :
    runStmts mismatchStmts s =
      { s with
        indicator := false
        rxEn := true
        rxq := []
        notifyEn := true
        mseq := .poll
        sub := 0
        trace := s.trace ++ [.event (.addrMismatch s.req[0]), .diag .addressMismatch] } := by
  rw [runStmts_zero _ s hs]
  simp [mismatchStmts, State.raise, State.diag, State.log, State.nextSub, State.rxOff, State.rxOn, State.goto]

/-- Settles O27: the seven statements in a row. -/
theorem mismatchFlushesAndRearms : Obligations.MismatchFlushesAndRearms := by
  intro s hs
  rw [exec, execMainMismatch, runStmts_mismatch_start hs]
  simp [hs]

/-- What the mismatch path may have written on the way from `s` to `t` (R124). -/
def State.MismatchPath (s t : State) : Prop :=
  ∃ ind rx q ne m sb tr,
    t = { s with
      indicator := ind, rxEn := rx, rxq := q, notifyEn := ne, mseq := m, sub := sb, trace := s.trace ++ tr } ∧
    (m = .mismatch ∨ m = .poll) ∧
    ∀ o ∈ tr, o = .event (.addrMismatch s.req[0]) ∨ o = .diag .addressMismatch

theorem State.MismatchPath.refl {s : State} (hm : s.mseq = .mismatch) : s.MismatchPath s :=
  ⟨s.indicator, s.rxEn, s.rxq, s.notifyEn, s.mseq, s.sub, [], by simp, .inl hm, by simp⟩

/-- Each of the seven statements stays within what the path may write. -/
theorem mismatchStmts_path {s : State} : ∀ f ∈ mismatchStmts, ∀ t, s.MismatchPath t → s.MismatchPath (f t) := by
  rintro f hf t ⟨ind, rx, q, ne, m, sb, tr, rfl, hm, htr⟩
  simp only [mismatchStmts, List.mem_cons, List.not_mem_nil, or_false] at hf
  rcases hf with rfl | rfl | rfl | rfl | rfl | rfl | rfl
  · exact ⟨ind, rx, q, ne, m, sb + 1, tr ++ [.event (.addrMismatch s.req[0])],
      by simp [State.raise, State.log, State.nextSub], hm, by simpa [or_imp, forall_and] using htr⟩
  · exact ⟨false, rx, q, ne, m, sb + 1, tr, rfl, hm, htr⟩
  · exact ⟨ind, false, [], ne, m, sb + 1, tr, rfl, hm, htr⟩
  · exact ⟨ind, true, q, ne, m, sb + 1, tr, rfl, hm, htr⟩
  · exact ⟨ind, rx, q, ne, m, sb + 1, tr ++ [.diag .addressMismatch],
      by simp [State.diag, State.log, State.nextSub], hm, by simpa [or_imp, forall_and] using htr⟩
  · exact ⟨ind, rx, q, true, m, sb + 1, tr, rfl, hm, htr⟩
  · exact ⟨ind, rx, q, ne, .poll, 0, tr, rfl, .inr rfl, htr⟩

/-- A byte of the master's touches the queue alone. -/
theorem State.MismatchPath.masterSend {s : State} (hm : s.mseq = .mismatch) (b : Byte) :
    s.MismatchPath (s.masterSend b) := by
  cases hx : s.rxEn with
  | false =>
    rw [s.masterSend_off b hx]
    exact .refl hm
  | true =>
    rw [s.masterSend_on b hx]
    exact ⟨s.indicator, s.rxEn, s.rxq ++ [b], s.notifyEn, s.mseq, s.sub, [], by simp, .inl hm, by simp⟩

/-- MAIN's whole operation on the path, from wherever it stands in it. -/
theorem runStmts_mismatch_path {s : State} (hm : s.mseq = .mismatch) : s.MismatchPath (runStmts mismatchStmts s) :=
  runStmts_induct mismatchStmts_path (.refl hm)

/-- Settles O54: MAIN's turns of either size run statements of the path, and no row decodes there. -/
theorem mismatchNeverReachesCodecOrDriver : Obligations.MismatchNeverReachesCodecOrDriver := by
  intro s t u hm hh hr ht
  suffices hpath : s.MismatchPath t from hpath
  have hsel : selected s = .mainMismatch := by simp [selected, hm]
  cases u with
  | master b => cases ht; exact .masterSend hm b
  | handler => exact absurd rfl hh
  | stmt =>
    simp only [act, mainStmt, hm] at ht
    cases ht
    exact oneStmt_induct mismatchStmts_path (.refl hm)
  | main =>
    rw [act, hsel] at ht
    cases ht
    exact runStmts_mismatch_path hm
  | transact =>
    have hfetch : fetch s = (.mainMismatch, s) := by simp [fetch, hm, hsel]
    rw [act, hfetch] at ht
    cases ht
    exact runStmts_mismatch_path hm
  | reset => exact absurd rfl hr

/-! ### The sequencer's table (R122) -/

/-- The discarding goes to the pace exactly when the parameter says so (R114, R115). -/
theorem State.discard_mseq (s : State) : s.discard.mseq = if s.cfg.paceOnDiscard = true then .pace else .rearm := rfl

theorem State.takeNotification_mseq (s : State) : s.takeNotification.mseq = s.mseq := by
  unfold State.takeNotification
  split <;> rfl

theorem State.masterSend_mseq (s : State) (b : Byte) : (s.masterSend b).mseq = s.mseq := by
  unfold State.masterSend
  split <;> rfl

/-- MAIN leaves `M_READ` by the transition alone, after the seventh byte. -/
theorem State.readStmt_mseq {s : State} (hm : s.mseq = .read) :
    s.readStmt.mseq = if s.sub ≠ 0 ∧ 8 ≤ s.byteIdx then .indOn else .read := by
  unfold State.readStmt
  by_cases hs : s.sub = 0
  · simp [hs, s.beginRead_mseq, hm]
  by_cases hb : 8 ≤ s.byteIdx
  · simp [hs, hb]
  · obtain ⟨r, q, k, he⟩ := s.readBytes_frame 1
    simp [hs, hb, he, hm]

theorem State.sendStmt_mseq {s : State} (hm : s.mseq = .send) :
    s.sendStmt.mseq = if s.sub ≠ 0 ∧ 7 ≤ s.byteIdx then .pace else .send := by
  unfold State.sendStmt
  by_cases hs : s.sub = 0
  · simp [hs, s.beginSend_mseq, hm]
  by_cases hb : 7 ≤ s.byteIdx
  · simp [hs, hb]
  · simp [hs, hb, State.sendByte, hm]

theorem State.validateStep_mseq (s : State) :
    s.validateStep.mseq =
      if s.validateStep.crcOk = true then .decode else if s.cfg.paceOnDiscard = true then .pace else .rearm := by
  by_cases h : s.frameValid
  · simp [State.validateStep_valid h]
  · simp [State.validateStep_invalid h, State.discard_eq]

theorem State.decodeStep_mseq (s : State) :
    s.decodeStep.mseq =
      if s.decodeStep.rtype ≠ .unknown then .sample else if s.cfg.paceOnDiscard = true then .pace else .rearm := by
  by_cases h : requestTypeOf s.req[3] = .unknown
  · simp [State.decodeStep_unknown h, State.discard_eq]
  · simp [State.decodeStep_known rfl h, h]

/-- MAIN leaves `M_SAMPLE` with the sort and the median alone, after the ninth pass. -/
theorem State.sampleStmt_mseq {s : State} (hm : s.mseq = .sample) :
    s.sampleStmt.mseq = if s.sub ≠ 0 ∧ 9 ≤ s.smpIdx ∧ s.sdseq = .idle then .encode else .sample := by
  unfold State.sampleStmt
  by_cases hs : s.sub = 0
  · rw [show s.seStmt s.rtype = s.beginSample by simp [State.seStmt, hs], State.leaveSample_inside s.beginSample_sub,
      s.beginSample_mseq, hm, if_neg (by simp [hs])]
  cases hn : s.sampled with
  | true =>
    rw [show s.seStmt s.rtype = s.takeMedian by simp [State.seStmt, hs, hn], if_pos ⟨hs, s.sampled_iff.mp hn⟩]
    rfl
  | false =>
    have hw := s.seStmt_writes s.rtype hs hn
    rw [State.leaveSample_inside (by rw [hw]; exact hs), hw,
      if_neg fun h => by simp [s.sampled_iff.mpr h.2] at hn]
    exact hm

theorem oneStmt_indicatorOn_mseq {s : State} (hm : s.mseq = .indOn) :
    (oneStmt indicatorOnStmts s).mseq = if s.sub = 0 then .indOn else .validate := by
  by_cases hs : s.sub = 0
  · simp [oneStmt_indicatorOn_first hs, hs, hm]
  · simp [oneStmt_indicatorOn_last hs, hs]

theorem oneStmt_rearm_mseq {s : State} (hm : s.mseq = .rearm) :
    (oneStmt rearmStmts s).mseq = if s.sub = 0 then .rearm else .poll := by
  by_cases hs : s.sub = 0
  · simp [oneStmt_rearm_first hs, hs, hm]
  · simp [oneStmt_rearm_last hs, hs]

theorem oneStmt_mismatch_mseq {s : State} (hm : s.mseq = .mismatch) :
    (oneStmt mismatchStmts s).mseq = if s.sub < 6 then .mismatch else .poll := by
  by_cases hs : s.sub < 6
  · obtain ⟨tr, he⟩ := oneStmt_mismatch_next hs
    simp [he, hs, hm]
  · simp [oneStmt_mismatch_last (Nat.not_lt.mp hs), hs]

/-- The eleven rows of the table: a statement of MAIN is that of the operation `MSEQ` selects. -/
theorem mainStmt_selected {s t : State} (ht : mainStmt s = .next t) :
    (s.mseq = .poll → t = s.poll) ∧ (s.mseq = .read → t = s.readStmt) ∧
    (s.mseq = .indOn → t = oneStmt indicatorOnStmts s) ∧ (s.mseq = .validate → t = s.validateStep) ∧
    (s.mseq = .decode → t = s.decodeStep) ∧ (s.mseq = .sample → t = s.sampleStmt) ∧
    (s.mseq = .encode → t = s.encodeStep) ∧ (s.mseq = .send → t = s.sendStmt) ∧
    (s.mseq = .pace → t = s.paceStep) ∧ (s.mseq = .rearm → t = oneStmt rearmStmts s) ∧
    (s.mseq = .mismatch → t = oneStmt mismatchStmts s) := by
  unfold mainStmt at ht
  cases hm : s.mseq with rw [hm] at ht
  | sample =>
    dsimp only at ht
    split at ht
    · cases ht
    · cases ht; simp
  | _ => cases ht; simp

/-- Settles O52, row by row of the table. -/
theorem mainSequencerFollowsItsTable : Obligations.MainSequencerFollowsItsTable := by
  refine ⟨fun _ _ => rfl, fun s t ht => ?_, fun s t b ht => ?_, fun s t ht => ?_⟩
  · cases ht
    split
    · exact s.takeNotification_mseq
    · rfl
  · cases ht
    exact s.masterSend_mseq b
  · obtain ⟨hpoll, hread, hind, hvalidate, hdecode, hsample, hencode, hsend, hpace, hrearm, hmis⟩ :=
      mainStmt_selected ht
    refine ⟨fun hm => ?_, fun hm => ?_, fun hm => ?_, fun hm => ?_, fun hm => ?_, fun hm => ?_, fun hm => ?_,
      fun hm => ?_, fun hm => ?_, fun hm => ?_, fun hm => ?_⟩
    · rw [hpoll hm, s.poll_eq]
      cases s.dstate <;> rfl
    · rw [hread hm, State.readStmt_mseq hm]
    · rw [hind hm, oneStmt_indicatorOn_mseq hm]
    · rw [hvalidate hm, s.validateStep_mseq]
    · rw [hdecode hm, s.decodeStep_mseq]
    · rw [hsample hm, State.sampleStmt_mseq hm]
    · rw [hencode hm, s.encodeStep_eq]
    · rw [hsend hm, State.sendStmt_mseq hm]
    · rw [hpace hm]; rfl
    · rw [hrearm hm, oneStmt_rearm_mseq hm]
    · rw [hmis hm, oneStmt_mismatch_mseq hm]

end Sys2Proof.Machine

/-! ## The sampling under the sensor's duties -/

namespace Sys2Proof.Machine

section
variable {s : State} {w : Timing} {str : SensorBits} {rest : List Bool}

/-! ### One acquisition (R130, R139) -/

/-- Answers that carry the driver from PreparationResponse through its stream are all read, and no more (R132, R133). -/
theorem State.polls_of_reads (hd : s.sdseq = .prep .p1) (hp : s.pinMode = .input)
    (hq : s.pinq = acquisitionReads s.cfg.prepLowWait w str ++ rest) :
    s.polls =
      { s with
        sdseq := .data .asm
        bitIdx := 40
        sbit := str
        trace := s.trace ++ List.replicate 40 (.delay .sample)
        pinq := rest } := by
  have hne : s.pinq ≠ [] := by simp [hq, acquisitionReads_ne_nil]
  have hrun := Acq.run_acquisition s.cfg.prepLowWait w str s.acq hd rest
  rw [State.polls, if_pos (by rw [hd]; rfl), if_pos ⟨hp, hne⟩, State.pollAll, hq, hrun]
  rfl

/-- An acquisition whose forty samples are `str` returns with the readings of `str` (R139). -/
theorem State.acquire_of_reads (hd : s.sdseq = .idle)
    (hq : s.pinq = acquisitionReads s.cfg.prepLowWait w str ++ rest) : s.acquire = s.afterAcquire str rest := by
  have hreads := State.polls_of_reads
    (s := { s with sdseq := .prep .p1, pinMode := .input, pinOut := true, trace := s.trace ++ startWaveform })
    rfl rfl hq
  rw [State.acquire, s.startPulse_idle hd, hreads, State.acquireReturn_asm _ rfl]
  simp [State.afterAcquire, acquisitionTrace]

/-! ### One pass (R150) -/

/-- The end of a pass, field by field: the reading into its element, the cooldown where one follows (R155). -/
theorem State.keepReading_eq (s : State) (ty : ReqType) :
    s.keepReading ty =
      { s with
        sample := s.sample.setIfInBounds s.smpIdx (s.reading ty)
        smpIdx := s.smpIdx + 1
        trace := s.trace ++ (if s.smpIdx < 8 ∨ s.cfg.cooldownAfterLast then [.delay .cooldown] else []) } := by
  unfold State.keepReading
  split_ifs <;> simp [State.delay, State.log]

end

/-! ### The passes -/

/-- The Sample List after the passes `j` to `j + n - 1` (R150). -/
def keepReadings (k : SensorChk) (ty : ReqType) (str : Nat → SensorBits) : Vector Word 9 → Nat → Nat → Vector Word 9
  | v, _, 0 => v
  | v, j, n + 1 => keepReadings k ty str (v.setIfInBounds j (keptReading k ty (str j))) (j + 1) n

theorem getElem_keepReadings (k : SensorChk) (ty : ReqType) (str : Nat → SensorBits) (n j : Nat) (v : Vector Word 9)
    (i : Nat) (hi : i < 9) :
    (keepReadings k ty str v j n)[i] = if j ≤ i ∧ i < j + n then keptReading k ty (str i) else v[i] := by
  induction n generalizing v j with
  | zero => rw [if_neg (by omega)]; rfl
  | succ n ih =>
    rw [keepReadings, ih]
    by_cases hij : i = j
    · subst hij
      simp
    · rw [Vector.getElem_setIfInBounds_ne hi (Ne.symm hij)]
      simp only [show (j + 1 ≤ i ∧ i < j + 1 + n) ↔ (j ≤ i ∧ i < j + (n + 1)) by omega]

/-- Nine passes from the first determine the Sample List: nothing of what it held before is left. -/
theorem keepReadings_nine (k : SensorChk) (ty : ReqType) (str : Nat → SensorBits) (v : Vector Word 9) :
    keepReadings k ty str v 0 9 = readingList k ty str := by
  apply Vector.ext
  intro i hi
  rw [getElem_keepReadings, if_pos (by omega), readingList, Vector.getElem_ofFn]

/-- The reads of `n + 1` acquisitions are those of the first and those of the others. -/
theorem samplingReads_succ (lw : Bool) (w : Nat → Timing) (str : Nat → SensorBits) (k n : Nat) :
    samplingReads lw w str k (n + 1) = acquisitionReads lw (w k) (str k) ++ samplingReads lw w str (k + 1) n := by
  simp [samplingReads, List.range'_succ]

@[simp] theorem samplingTrace_zero (c : Config) (str : Nat → SensorBits) (j : Nat) :
    samplingTrace c str j 0 = [] := rfl

theorem samplingTrace_succ (c : Config) (str : Nat → SensorBits) (j n : Nat) :
    samplingTrace c str j (n + 1) =
      acquisitionTrace c.sensorChk (str j) ++ (if j < 8 ∨ c.cooldownAfterLast then [.delay .cooldown] else []) ++
        samplingTrace c str (j + 1) n := by
  simp [samplingTrace, List.range'_succ]

/-- The state after the passes `j` to `j + n` of a sampling (R150): the last stream's registers, and a reading kept of
each. -/
def State.afterPasses (s : State) (ty : ReqType) (str : Nat → SensorBits) (j n : Nat) (rest : List Bool) : State :=
  { s.afterAcquire (str (j + n)) rest with
    sample := keepReadings s.cfg.sensorChk ty str s.sample j (n + 1)
    smpIdx := j + (n + 1)
    trace := s.trace ++ samplingTrace s.cfg str j (n + 1) }

/-- The passes after the first go on where it ended. -/
theorem State.afterPasses_afterPasses (s : State) (ty : ReqType) (str : Nat → SensorBits) (j n : Nat)
    (rest rest' : List Bool) :
    (s.afterPasses ty str j 0 rest).afterPasses ty str (j + 1) n rest' = s.afterPasses ty str j (n + 1) rest' := by
  simp [State.afterPasses, State.afterAcquire, keepReadings, samplingTrace_succ, Nat.add_assoc, Nat.add_comm 1]

section
variable {s : State} {w : Nat → Timing} {str : Nat → SensorBits} {rest : List Bool}

/-- A pass whose acquisition has its stream keeps the stream's reading, and the others follow (R150). -/
theorem State.passes_succ_of_reads {w : Timing} {j : Nat} (n : Nat) (ty : ReqType) (hd : s.sdseq = .idle)
    (hj : s.smpIdx = j) (hq : s.pinq = acquisitionReads s.cfg.prepLowWait w (str j) ++ rest) :
    s.passes (n + 1) ty = (s.afterPasses ty str j 0 rest).passes n ty := by
  have hacquire := State.acquire_of_reads hd hq
  have hkeep : (s.afterAcquire (str j) rest).keepReading ty = s.afterPasses ty str j 0 rest := by
    rw [State.keepReading_eq, State.afterPasses, samplingTrace_succ, samplingTrace_zero, List.append_nil,
      ← List.append_assoc, ← hj]
    rfl
  rw [s.passes_succ_idle n ty (by rw [hacquire]; rfl), hacquire, hkeep]

/-- The passes of a sampling under the sensor's duties (R150). -/
theorem State.passes_of_reads {j : Nat} (n : Nat) (ty : ReqType) (hd : s.sdseq = .idle) (hj : s.smpIdx = j)
    (hq : s.pinq = samplingReads s.cfg.prepLowWait w str j (n + 1) ++ rest) :
    s.passes (n + 1) ty = s.afterPasses ty str j n rest := by
  rw [samplingReads_succ, List.append_assoc] at hq
  induction n generalizing s j with
  | zero => exact State.passes_succ_of_reads 0 ty hd hj hq
  | succ n ih =>
    have hrest := ih (s := s.afterPasses ty str j 0 (samplingReads s.cfg.prepLowWait w str (j + 1) (n + 1) ++ rest))
      (j := j + 1) rfl rfl (by rw [← List.append_assoc, ← samplingReads_succ]; rfl)
    rw [State.passes_succ_of_reads (n + 1) ty hd hj hq, hrest, State.afterPasses_afterPasses]

/-! ### The whole sampling (R150, R151) -/

/-- A sampling from its start, under the sensor's duties for its nine acquisitions (R150). -/
theorem State.sampleMedian_of_reads (ty : ReqType) (hs : s.sub = 0) (hd : s.sdseq = .idle)
    (hq : s.pinq = samplingReads s.cfg.prepLowWait w str 0 9 ++ rest) :
    s.sampleMedian ty = s.afterSampling ty str rest := by
  have hbegin : s.beginSample = { s with smpIdx := 0, sub := 1 } := by simp [State.beginSample, hs]
  have hpasses : s.beginSample.passes (sampleCount - s.beginSample.smpIdx) ty =
      s.beginSample.afterPasses ty str 0 8 rest := by
    rw [hbegin]
    exact State.passes_of_reads (s := { s with smpIdx := 0, sub := 1 }) 8 ty hd rfl hq
  have hsampled : (s.beginSample.afterPasses ty str 0 8 rest).sampled = true := (State.sampled_iff _).mpr ⟨le_rfl, rfl⟩
  have hlist : (s.beginSample.afterPasses ty str 0 8 rest).sample = readingList s.cfg.sensorChk ty str := by
    rw [hbegin]
    exact keepReadings_nine ..
  rw [State.sampleMedian, hpasses, State.endSample, if_pos hsampled, State.takeMedian, hlist, hbegin]
  rfl

theorem State.sampleStep_of_reads (hs : s.sub = 0) (hd : s.sdseq = .idle)
    (hq : s.pinq = samplingReads s.cfg.prepLowWait w str 0 9 ++ rest) :
    s.sampleStep = { s.afterSampling s.rtype str rest with mseq := .encode } := by
  rw [State.sampleStep, State.sampleMedian_of_reads s.rtype hs hd hq]
  rfl

end

/-- Settles O23: the sampling returns, and MAIN goes to the encoding. -/
theorem sampleStepStoresTheMedian : Obligations.SampleStepStoresTheMedian := by
  intro s w str rest hs hd hr hq
  rw [exec, execMainSampleStep, if_neg hr, State.sampleStep_of_reads hs hd hq]

end Sys2Proof.Machine

/-! ## A request as a whole, on a ready core -/

namespace Sys2Proof.Machine

section
variable {s : State} {n : Nat}

/-! ### One operation of a cycle, at the place where it is due -/

/-- The poll hands a classified byte over to the reading or the mismatch path (R111). -/
theorem cycle_poll (hm : s.mseq = .poll) (hd : s.dstate ≠ .idle) :
    cycle (n + 1) s = cycle n { s with dstate := .idle, mseq := pollTarget s.dstate, sub := 0 } := by
  have hmoves : pollTarget s.dstate ≠ .poll := mt (pollTarget_eq_poll _).mp hd
  refine cycle_succ n s _ ?_ hmoves (by simpa [hm] using hmoves)
  simp [mainOp, hm, execMainPoll, s.poll_eq]

theorem cycle_read {b1 b2 b3 b4 b5 b6 b7 : Byte} {q : List Byte} (hm : s.mseq = .read) (hs : s.sub = 0)
    (hq : s.rxq = b1 :: b2 :: b3 :: b4 :: b5 :: b6 :: b7 :: q) :
    cycle (n + 1) s =
      cycle n { s with
        req := #v[s.req[0], b1, b2, b3, b4, b5, b6, b7], rxq := q, byteIdx := 8, mseq := .indOn, sub := 0 } := by
  refine cycle_succ n s _ ?_ nofun (by simp [hm])
  simp [mainOp, hm, execMainReadFrame, State.readFrame_seven hs hq]

theorem cycle_indicatorOn (hm : s.mseq = .indOn) (hs : s.sub = 0) :
    cycle (n + 1) s = cycle n { s with indicator := true, mseq := .validate, sub := 0 } := by
  refine cycle_succ n s _ ?_ nofun (by simp [hm])
  simp [mainOp, hm, execMainIndicatorOn, runStmts_indicatorOn_start hs]

theorem cycle_validate_valid (hm : s.mseq = .validate) (h : s.frameValid) :
    cycle (n + 1) s =
      cycle n { s with crc := crc16 s.req.toList 6, byteIdx := 6, crcOk := true, mseq := .decode, sub := 0 } := by
  refine cycle_succ n s _ ?_ nofun (by simp [hm])
  simp [mainOp, hm, execMainValidateStep, State.validateStep_valid h]

theorem cycle_decode_known {ty : ReqType} (hm : s.mseq = .decode) (hty : requestTypeOf s.req[3] = ty)
    (hk : ty ≠ .unknown) : cycle (n + 1) s = cycle n { s with rtype := ty, mseq := .sample, sub := 0 } := by
  refine cycle_succ n s _ ?_ nofun (by simp [hm])
  simp [mainOp, hm, execMainDecodeStep, State.decodeStep_known hty hk]

theorem cycle_sample {w : Nat → Timing} {str : Nat → SensorBits} {rest : List Bool} (hm : s.mseq = .sample)
    (hs : s.sub = 0) (hk : s.rtype ≠ .unknown) (hd : s.sdseq = .idle)
    (hq : s.pinq = samplingReads s.cfg.prepLowWait w str 0 9 ++ rest) :
    cycle (n + 1) s = cycle n { s.afterSampling s.rtype str rest with mseq := .encode } := by
  refine cycle_succ n s _ ?_ nofun (by simp [hm])
  simp [mainOp, hm, execMainSampleStep, hk, State.sampleStep_of_reads hs hd hq]

theorem cycle_encode (hm : s.mseq = .encode) :
    cycle (n + 1) s =
      cycle n { s with
        rsp := responseFrame s.req[0] s.value
        crc := crc16 (responseBody s.req[0] s.value) 5
        byteIdx := 5
        mseq := .send
        sub := 0 } := by
  refine cycle_succ n s _ ?_ nofun (by simp [hm])
  simp [mainOp, hm, execMainEncodeStep, s.encodeStep_eq]

theorem cycle_send (hm : s.mseq = .send) (hs : s.sub = 0) :
    cycle (n + 1) s =
      cycle n { s with txlog := s.txlog ++ s.rsp.toList, byteIdx := 7, mseq := .pace, sub := 0 } := by
  refine cycle_succ n s _ ?_ nofun (by simp [hm])
  simp [mainOp, hm, execMainSend, State.send_start hs]

/-! The operations that end a cycle. -/

theorem cycle_pace (hm : s.mseq = .pace) :
    cycle (n + 1) s =
      .next { s with notifyEn := true, mseq := .poll, sub := 0, trace := s.trace ++ [.delay .pace] } := by
  refine cycle_stop n s _ ?_ (.inl rfl)
  simp [mainOp, hm, execMainPaceRearm_pace hm]

theorem cycle_rearm (hm : s.mseq = .rearm) (hs : s.sub = 0) :
    cycle (n + 1) s = .next { s with notifyEn := true, mseq := .poll, sub := 0 } := by
  refine cycle_stop n s _ ?_ (.inl rfl)
  simp [mainOp, hm, execMainPaceRearm_rearm hm hs]

theorem cycle_mismatch (hm : s.mseq = .mismatch) (hs : s.sub = 0) :
    cycle (n + 1) s =
      .next { s with
        indicator := false
        rxEn := true
        rxq := []
        notifyEn := true
        mseq := .poll
        sub := 0
        trace := s.trace ++ [.event (.addrMismatch s.req[0]), .diag .addressMismatch] } := by
  refine cycle_stop n s _ ?_ (.inl rfl)
  simp [mainOp, hm, execMainMismatch, runStmts_mismatch_start hs]

/-- A discarded frame is followed by the re-arming, after the pace when `PACE_ON_DISCARD` (R114, R115, R119). -/
theorem cycle_discard :
    cycle (n + 1) s.discard =
      .next { s with
        notifyEn := true
        mseq := .poll
        sub := 0
        trace := s.trace ++ (if s.cfg.paceOnDiscard = true then [.delay .pace] else []) } := by
  cases hp : s.cfg.paceOnDiscard with
  | true => rw [cycle_pace (by simp [s.discard_mseq, hp])]; simp [s.discard_eq]
  | false => rw [cycle_rearm (by simp [s.discard_mseq, hp]) rfl]; simp [s.discard_eq]

/-- An operation of the matched path that discards the frame moves MAIN on to the end of the cycle. -/
theorem cycle_discarding {t : State} (hm : s.mseq.matched = true) (hop : mainOp s = .next t.discard) :
    cycle (n + 1) s = cycle n t.discard := by
  have hmoves : t.discard.mseq ≠ .poll ∧ t.discard.mseq.matched = false := by
    rw [t.discard_mseq]
    split <;> decide
  refine cycle_succ n s _ hop hmoves.1 fun he => ?_
  simp [he, hm] at hmoves

theorem cycle_validate_invalid (hm : s.mseq = .validate) (h : ¬ s.frameValid) :
    cycle (n + 1) s =
      cycle n ({ s with
        crc := crc16 s.req.toList 6
        byteIdx := 6
        crcOk := false
        trace := s.trace ++ [.event (.crcMismatch s.req), .diag .crcMismatch] } : State).discard := by
  refine cycle_discarding (by simp [hm, MSeq.matched]) ?_
  simp [mainOp, hm, execMainValidateStep, State.validateStep_invalid h]

theorem cycle_decode_unknown (hm : s.mseq = .decode) (hty : requestTypeOf s.req[3] = .unknown) :
    cycle (n + 1) s =
      cycle n ({ s with
        rtype := .unknown, trace := s.trace ++ [.event (.unknownType s.req[3])] } : State).discard := by
  refine cycle_discarding (by simp [hm, MSeq.matched]) ?_
  simp [mainOp, hm, execMainDecodeStep, State.decodeStep_unknown hty]

/-! ### The frame is taken (R60, R110 to R113) -/

/-- A ready core's handler classifies the first byte, and the poll hands it over. -/
theorem takeFrame_cons (hr : s.ready = true) (a : Byte) (bytes : List Byte) :
    takeFrame (a :: bytes) s =
      cycle 8 { s with
        rxq := bytes ++ s.rxq
        req := s.req.set 0 a
        dstate := .idle
        notifyEn := false
        mseq := pollTarget (classify s.slaveAddr a)
        sub := 0 } := by
  rw [takeFrame_ready _ s hr, State.takeNotification_cons _ a (bytes ++ s.rxq) rfl]
  exact cycle_poll (s.ready_iff.mp hr).1 (classify_ne_idle _ _)

/-- The state in which a frame of this block's address stands in `REQ`, before the CRC test. -/
def State.received (s : State) (frame : Vector Byte 8) : State :=
  { s with
    req := frame
    byteIdx := 8
    dstate := .idle
    notifyEn := false
    indicator := true
    mseq := .validate
    sub := 0 }

/-- A frame with this block's address is read whole (R112, R113). -/
theorem takeFrame_matched (hr : s.ready = true) (r1 r2 ty r4 r5 lo hi : Byte) :
    takeFrame [s.slaveAddr, r1, r2, ty, r4, r5, lo, hi] s =
      cycle 6 (s.received #v[s.slaveAddr, r1, r2, ty, r4, r5, lo, hi]) := by
  have hread : pollTarget (classify s.slaveAddr s.slaveAddr) = .read := by
    rw [(classify_eq_matched ..).mpr rfl]; rfl
  rw [takeFrame_cons hr, hread]
  refine Eq.trans (cycle_read rfl rfl rfl) ?_
  refine Eq.trans (cycle_indicatorOn rfl rfl) ?_
  simp [State.received]

/-- The bytes of a request that carries its trailer (R71, R83). -/
theorem withTrailer_request (a r1 r2 ty r4 r5 : Byte) :
    withTrailer [a, r1, r2, ty, r4, r5] =
      [a, r1, r2, ty, r4, r5, loByte (crc16 [a, r1, r2, ty, r4, r5] 6), hiByte (crc16 [a, r1, r2, ty, r4, r5] 6)] := rfl

/-- The same bytes as they stand in `REQ`. -/
def requestFrame (a r1 r2 ty r4 r5 : Byte) : Vector Byte 8 :=
  #v[a, r1, r2, ty, r4, r5, loByte (crc16 [a, r1, r2, ty, r4, r5] 6), hiByte (crc16 [a, r1, r2, ty, r4, r5] 6)]

/-- A frame with its trailer is accepted (R114). -/
theorem takeFrame_valid (hr : s.ready = true) (r1 r2 ty r4 r5 : Byte) :
    takeFrame (withTrailer [s.slaveAddr, r1, r2, ty, r4, r5]) s =
      cycle 5 { s.received (requestFrame s.slaveAddr r1 r2 ty r4 r5) with
        crc := crc16 [s.slaveAddr, r1, r2, ty, r4, r5] 6, byteIdx := 6, crcOk := true, mseq := .decode } := by
  have hvalid : (s.received (requestFrame s.slaveAddr r1 r2 ty r4 r5)).frameValid := by
    rw [State.frameValid, crc16_request]
    exact ⟨rfl, rfl⟩
  rw [withTrailer_request, takeFrame_matched hr]
  refine Eq.trans (cycle_validate_valid rfl hvalid) ?_
  rw [crc16_request]
  rfl

end

/-! ### The five kinds of request -/

/-- Settles O40: the foreign byte leads to the mismatch path. -/
theorem otherAddressRequestIsFlushed : Obligations.OtherAddressRequestIsFlushed := by
  intro s a hr ha
  obtain ⟨hm, hd, hn, hx⟩ := s.ready_iff.mp hr
  have hmis : pollTarget (classify s.slaveAddr a) = .mismatch := by
    rw [(classify_eq_mismatched ..).mpr ha]; rfl
  refine (takeFrame_cons hr a []).trans ?_
  rw [hmis, cycle_mismatch rfl rfl]
  simp [hm, hd, hn, hx]

/-- Settles O39: the frame fails the CRC test, and is discarded. -/
theorem badCrcRequestIsDropped : Obligations.BadCrcRequestIsDropped := by
  intro s r1 r2 t r4 r5 lo hi hr c frame hbad
  obtain ⟨hm, hd, hn, -⟩ := s.ready_iff.mp hr
  have hinvalid : ¬ (s.received frame).frameValid := by
    rw [State.frameValid, crc16_request]
    exact hbad
  refine ⟨6, (takeFrame_matched hr r1 r2 t r4 r5 lo hi).trans ?_⟩
  refine Eq.trans (cycle_validate_invalid rfl hinvalid) ?_
  rw [cycle_discard, crc16_request]
  cases hp : s.cfg.paceOnDiscard <;> simp [State.received, hm, hd, hn, hp, frame, c]

/-- Settles O38: the frame passes the CRC test, its type is unknown, and it is discarded. -/
theorem unknownRequestIsDropped : Obligations.UnknownRequestIsDropped := by
  intro s r1 r2 t r4 r5 hr h1 h2 c
  obtain ⟨hm, hd, hn, -⟩ := s.ready_iff.mp hr
  refine ⟨6, (takeFrame_valid hr r1 r2 t r4 r5).trans ?_⟩
  refine Eq.trans (cycle_decode_unknown rfl ((requestTypeOf_eq_unknown t).mpr ⟨h1, h2⟩)) ?_
  rw [cycle_discard]
  cases hp : s.cfg.paceOnDiscard <;> simp [State.received, requestFrame, hm, hd, hn, hp, c]

/-- A request of a known type, under the sensor's duties, is answered with the median of its quantity (R116 to R119). -/
theorem takeFrame_answered {s : State} {w : Nat → Timing} {str : Nat → SensorBits} {rest : List Bool} {ty : ReqType}
    (hr : s.ready = true) (r1 r2 code r4 r5 : Byte) (hty : requestTypeOf code = ty) (hk : ty ≠ .unknown)
    (hd : s.sdseq = .idle) (hq : s.pinq = samplingReads s.cfg.prepLowWait w str 0 9 ++ rest) :
    takeFrame (withTrailer [s.slaveAddr, r1, r2, code, r4, r5]) s =
      .next { s.afterSampling ty str rest with
        req := requestFrame s.slaveAddr r1 r2 code r4 r5
        crcOk := true
        rtype := ty
        indicator := true
        rsp := responseFrame s.slaveAddr (s.afterSampling ty str rest).value
        crc := crc16 (responseBody s.slaveAddr (s.afterSampling ty str rest).value) 5
        byteIdx := 7
        txlog := s.txlog ++ (responseFrame s.slaveAddr (s.afterSampling ty str rest).value).toList
        trace := (s.afterSampling ty str rest).trace ++ [.delay .pace] } := by
  obtain ⟨hm, hi, hn, -⟩ := s.ready_iff.mp hr
  rw [takeFrame_valid hr]
  refine Eq.trans (cycle_decode_known rfl hty hk) ?_
  refine Eq.trans (cycle_sample rfl rfl hk hd hq) ?_
  refine Eq.trans (cycle_encode rfl) ?_
  refine Eq.trans (cycle_send rfl rfl) ?_
  refine Eq.trans (cycle_pace rfl) ?_
  simp [State.received, State.afterSampling, requestFrame, hm, hi, hn]

/-- Settles O37: the two known types. -/
theorem validRequestIsAnsweredWithTheMedian : Obligations.ValidRequestIsAnsweredWithTheMedian := by
  intro s r1 r2 r4 r5 w str rest hr hd hq answered
  exact ⟨⟨7, takeFrame_answered hr r1 r2 0x01 r4 r5 rfl nofun hd hq⟩,
    ⟨7, takeFrame_answered hr r1 r2 0x02 r4 r5 rfl nofun hd hq⟩⟩

end Sys2Proof.Machine

/-! ## The Sensor Driver -/

namespace Sys2Proof.Machine

/-! ### The checksums (R135, R140) -/

theorem toNat_sum4 (h t : Word) : (sum4 h t).toNat = dataSum h t % 256 := by
  rw [sum4, BitVec.toNat_ofNat, Nat.mod_mod]

theorem toNat_sum4Eac (h t : Word) :
    (sum4Eac h t).toNat =
      ((dataSum h t % 256 + dataSum h t / 256) % 256 + (dataSum h t % 256 + dataSum h t / 256) / 256) % 256 :=
  BitVec.toNat_ofNat ..

/-- Where the four-byte sum does not overflow, no carry is there to drop or to add back (R135). -/
theorem sum4_eq_sum4Eac {h t : Word} (hs : dataSum h t < 256) : sum4 h t = sum4Eac h t := by
  apply BitVec.eq_of_toNat_eq
  rw [toNat_sum4, toNat_sum4Eac]
  omega

/-- Settles O33. -/
theorem sensorChecksumsAgreeBelowOverflow : Obligations.SensorChecksumsAgreeBelowOverflow :=
  fun h t => ⟨toNat_sum4 h t, toNat_sum4Eac h t, sum4_eq_sum4Eac⟩

/-! ### The assembly and its test (R134 to R136) -/

/-- The assembly with its test, field by field: the two results of a stream. -/
theorem State.finishStream_eq (s : State) :
    s.finishStream =
      if streamOk s.cfg.sensorChk s.sbit = true then
        { s with
          hum := streamHum s.sbit, tmp := streamTmp s.sbit, chk := streamChk s.sbit, chkOk := true, sdseq := .done }
      else
        { s with
          hum := 0
          tmp := 0
          chk := streamChk s.sbit
          chkOk := false
          sdseq := .fail
          trace := s.trace ++ [.event (.sensorChk (streamChk s.sbit))] } := by
  have hchk : s.assemble.testChecksum.chkOk = streamOk s.cfg.sensorChk s.sbit := rfl
  rw [State.finishStream, State.softFail, hchk]
  split_ifs with hok
  · rw [← hok]; rfl
  · rw [← Bool.eq_false_iff.mpr hok]; rfl

/-- The checksum flag tells which of the two results the stream has (R136, R137). -/
theorem State.finishStream_branch (s : State) :
    s.finishStream.sdseq = if s.finishStream.chkOk = true then .done else .fail := by
  rw [s.finishStream_eq]
  by_cases hok : streamOk s.cfg.sensorChk s.sbit = true <;> simp [hok]

theorem streamOk_streamOf (k : SensorChk) (h t : Word) (c : Byte) :
    streamOk k (streamOf h t c) = true ↔ sensorChk k h t = c := by
  simp [streamOk, chkOkOf]

/-- Settles O31. -/
theorem streamIsAssembledAndTested : Obligations.StreamIsAssembledAndTested := by
  intro h t c s
  rw [exec, execStrData, State.finishStream_eq]
  simp only [streamOk_streamOf, streamHum_streamOf, streamTmp_streamOf, streamChk_streamOf]
  rfl

/-! ### An acquisition that gets its stream (R139) -/

/-- Settles O29. -/
theorem acquisitionReturnsItsStream : Obligations.AcquisitionReturnsItsStream := by
  intro s w str rest hd hq
  rw [exec, execSdAcquire, State.acquire_of_reads hd hq]

/-! ### A poll that waits (R138) -/

section
variable {s : State}

/-- Where the driver reads the pin, StartPulse is over (R137). -/
theorem State.startPulse_of_reads (hr : s.sdseq.reads = true) : s.startPulse = s := by
  cases hq : s.sdseq with
  | prep p => simp [State.startPulse, hq]
  | data b => simp [State.startPulse, hq]
  | idle | start k | done | fail => simp [hq, SdSeq.reads] at hr

/-- Where the driver reads the pin, the acquisition has not returned (R137). -/
theorem State.acquireReturn_of_reads (hr : s.sdseq.reads = true) : s.acquireReturn = s := by
  rcases s.acquireReturn_cases with ⟨he, -⟩ | ⟨-, hq⟩ | ⟨-, hq | hq⟩
  · exact he
  all_goals simp [hq, SdSeq.reads] at hr

/-- An acquisition whose answers are all of the level its poll waits out stands where it stood (R138). -/
theorem State.acquire_of_waiting {n : Nat} {level : Bool} (hr : s.sdseq.reads = true)
    (hwait : s.acq.feed s.cfg.prepLowWait level = s.acq) (hp : s.pinMode = .input)
    (hq : s.pinq = List.replicate (n + 1) level) : s.acquire = { s with pinq := [] } := by
  have hrun : s.acq.run s.cfg.prepLowWait s.pinq = (s.acq, []) := by
    rw [hq, ← List.append_nil (List.replicate _ _), Acq.run_replicate _ _ s.acq hr hwait, Acq.run]
  have hpolls : s.polls = { s with pinq := [] } := by
    rw [State.polls, if_pos hr, if_pos ⟨hp, by simp [hq]⟩, State.pollAll, hrun]
    rfl
  rw [State.acquire, State.startPulse_of_reads hr, hpolls]
  exact State.acquireReturn_of_reads hr

end

/-- Settles O30: at each of the five polls the level waited out changes nothing. -/
theorem busyPollsWaitWithoutBound : Obligations.BusyPollsWaitWithoutBound := by
  intro s n level hp hq hwait
  have hstays : s.sdseq.reads = true ∧ s.acq.feed s.cfg.prepLowWait level = s.acq := by
    rcases hwait with ⟨hd, rfl⟩ | ⟨hd, rfl⟩ | ⟨hd, rfl⟩ | ⟨hd, rfl⟩ | ⟨hd, rfl⟩ <;>
      simp [State.acq, Acq.feed, SdSeq.reads, hd]
  obtain ⟨hr, hf⟩ := hstays
  rw [exec, execSdAcquire, State.acquire_of_waiting hr hf hp hq]

/-! ### The pin during an acquisition (R131) -/

/-- The observation is no write of the pin. -/
def Obs.OffPin (o : Obs) : Prop := (∀ m, o ≠ .pinMode m) ∧ ∀ l, o ≠ .pinDrive l

theorem Obs.OffPin.delay (d : Duration) : (Obs.delay d).OffPin := ⟨nofun, nofun⟩

theorem Obs.OffPin.event (e : Event) : (Obs.event e).OffPin := ⟨nofun, nofun⟩

/-- The record goes on from `tr` to `tr'` without a write of the pin. -/
def OffPinFrom (tr tr' : List Obs) : Prop := ∃ tail, tr' = tr ++ tail ∧ ∀ o ∈ tail, o.OffPin

theorem OffPinFrom.refl (tr : List Obs) : OffPinFrom tr tr := ⟨[], by simp, by simp⟩

theorem OffPinFrom.snoc {tr tr' : List Obs} (h : OffPinFrom tr tr') {o : Obs} (ho : o.OffPin) :
    OffPinFrom tr (tr' ++ [o]) := by
  obtain ⟨tail, rfl, htail⟩ := h
  exact ⟨tail ++ [o], by simp, by simpa [or_imp, forall_and] using ⟨htail, ho⟩⟩

/-- All a read adds to the record is the sampling offset that follows `A` (R133). -/
theorem Acq.feed_trace (lw : Bool) (a : Acq) (l : Bool) :
    (a.feed lw l).trace = a.trace ∨ (a.feed lw l).trace = a.trace ++ [.delay .sample] := by
  obtain ⟨q, i, b, tr⟩ := a
  cases q with
  | prep p => cases p <;> cases l <;> exact .inl rfl
  | data k =>
    cases k with
    | a => cases l <;> simp [Acq.feed]
    | d =>
      simp only [Acq.feed]
      split_ifs <;> exact .inl rfl
    | c | asm => exact .inl rfl
  | idle | start k | done | fail => exact .inl rfl

theorem State.polls_offPin (s : State) : OffPinFrom s.trace s.polls.trace := by
  refine State.polls_induct (P := fun a => OffPinFrom s.trace a.trace) (fun lw a l h => ?_) (.refl _)
  rcases a.feed_trace lw l with he | he
  · rwa [he]
  · rw [he]; exact h.snoc (.delay _)

theorem State.finishStream_offPin {s : State} {tr : List Obs} (h : OffPinFrom tr s.trace) :
    OffPinFrom tr s.finishStream.trace := by
  rw [s.finishStream_eq]
  split_ifs
  · exact h
  · exact h.snoc (.event _)

theorem State.acquireReturn_offPin {s : State} {tr : List Obs} (h : OffPinFrom tr s.trace) :
    OffPinFrom tr s.acquireReturn.trace := by
  rcases s.acquireReturn_cases with ⟨he, -⟩ | ⟨he, -⟩ | ⟨he, -⟩
  · rwa [he]
  · rw [he]; exact State.finishStream_offPin h
  · rw [he]; exact h

theorem State.acquireReturn_pin (s : State) :
    s.acquireReturn.pinMode = s.pinMode ∧ s.acquireReturn.pinOut = s.pinOut := by
  obtain ⟨q, h, t, c, ok, tr, he⟩ := s.acquireReturn_frame
  simp [he]

/-- Settles O28: the waveform is StartPulse's, and neither the reads nor the return write the pin. -/
theorem acquisitionBeginsWithStartPulse : Obligations.AcquisitionBeginsWithStartPulse := by
  intro s hd
  have hstart := s.startPulse_idle hd
  obtain ⟨hmode, hout⟩ := s.startPulse.polls.acquireReturn_pin
  obtain ⟨hmode', hout'⟩ := s.startPulse.polls_pin
  obtain ⟨tail, htrace, htail⟩ := State.acquireReturn_offPin s.startPulse.polls_offPin
  refine ⟨s.acquire, tail, rfl, ?_, ?_, ?_, htail⟩
  · rw [State.acquire, hmode, hmode', hstart]
  · rw [State.acquire, hout, hout', hstart]
  · rw [State.acquire, htrace, hstart, startWaveform]

/-! ### The driver's table (R137) -/

section
variable {lw l : Bool} {a : Acq}

/-- `P1` (R132): with `PREP_LOW_WAIT` the low window is waited out next (decision D6). -/
theorem Acq.feed_p1 (h : a.seq = .prep .p1) :
    (a.feed lw l).seq = if l = true then .prep .p1 else if lw = true then .prep .p2 else .prep .p3 := by
  cases l <;> cases lw <;> simp [Acq.feed, h]

theorem Acq.feed_p2 (h : a.seq = .prep .p2) :
    (a.feed lw l).seq = if l = true then .prep .p3 else .prep .p2 := by
  cases l <;> simp [Acq.feed, h]

/-- `P3` (R132) and the start of R133's loop. -/
theorem Acq.feed_p3 (h : a.seq = .prep .p3) :
    (a.feed lw l).seq = (if l = true then .prep .p3 else .data .a) ∧ (l = false → (a.feed lw l).idx = 0) := by
  cases l <;> simp [Acq.feed, h]

theorem Acq.feed_a (h : a.seq = .data .a) :
    (a.feed lw l).seq = if l = true then .data .c else .data .a := by
  cases l <;> simp [Acq.feed, h]

theorem Acq.feed_c (h : a.seq = .data .c) :
    (a.feed lw l).seq = .data .d ∧ (a.feed lw l).bits = setStreamBit a.bits a.idx l := by
  simp [Acq.feed, h]

/-- `D` (R133) and the end of R133's loop. -/
theorem Acq.feed_d (h : a.seq = .data .d) :
    (a.feed lw l).seq =
        (if l = true then .data .d else if a.idx + 1 < 40 then .data .a else .data .asm) ∧
      (l = false → (a.feed lw l).idx = if a.idx + 1 < 40 then a.idx + 1 else 40) := by
  cases l with
  | true => simp [Acq.feed, h]
  | false => by_cases hi : a.idx + 1 < 40 <;> simp [Acq.feed, h, hi]

end

section
variable {s : State}

/-- One read, and what it decides (R132, R133). -/
theorem State.pollOnce_acq (s : State) : s.pollOnce.acq = s.acq.feed s.cfg.prepLowWait s.pinRead.1 := rfl

/-- Inside the loop of R150, before the sort, MAIN's statement is the engine's (R55). -/
theorem State.sampleStmt_inside (hs : s.sub ≠ 0) (hn : s.sampled = false) : s.sampleStmt = s.seStmt s.rtype :=
  State.leaveSample_inside (by rw [s.seStmt_writes s.rtype hs hn]; exact hs)

/-- After the ninth pass the driver stays idle: what is left is the sort (R151). -/
theorem State.sampleStmt_sdseq_of_idle (hs : s.sub ≠ 0) (hq : s.sdseq = .idle) :
    s.sampleStmt.sdseq = if 9 ≤ s.smpIdx then .idle else .start .wake := by
  cases hn : s.sampled with
  | true =>
    have hend : s.seStmt s.rtype = s.takeMedian := by simp [State.seStmt, hs, hn]
    rw [State.sampleStmt, hend, if_pos (s.sampled_iff.mp hn).1]
    exact hq
  | false =>
    have hcall : s.seStmt s.rtype = s.sdGoto (.start .wake) := by simp [State.seStmt, State.sdStmt, hs, hn, hq]
    rw [State.sampleStmt_inside hs hn, hcall, if_neg fun hk => by simp [s.sampled_iff.mpr ⟨hk, hq⟩] at hn]
    rfl

/-- The return of an acquisition ends the pass (R137, R150). -/
theorem State.sampleStmt_sdseq_of_result (hs : s.sub ≠ 0) (hq : s.sdseq = .done ∨ s.sdseq = .fail) :
    s.sampleStmt.sdseq = .idle := by
  have hn : s.sampled = false := by rcases hq with hq | hq <;> simp [State.sampled, hq]
  rw [State.sampleStmt_inside hs hn]
  rcases s.seStmt_cases s.rtype hs hn with ⟨he, -⟩ | ⟨-, hd, hf⟩
  · rw [he, (s.sdStmt.keepReading_sdseq s.rtype).1, s.sdStmt_of_result hq]
  · exact absurd hq (by simp [hd, hf])

/-- While an acquisition goes on, MAIN's statement is the driver's (R55). -/
theorem State.sampleStmt_eq_sdStmt (hs : s.sub ≠ 0) (hi : s.sdseq ≠ .idle) (hd : s.sdseq ≠ .done)
    (hf : s.sdseq ≠ .fail) : s.sampleStmt = s.sdStmt := by
  have hn : s.sampled = false := by simp [State.sampled, hi]
  rw [State.sampleStmt_inside hs hn]
  rcases s.seStmt_cases s.rtype hs hn with ⟨-, hq⟩ | ⟨he, -⟩
  · exact absurd hq (by simp [hd, hf])
  · exact he

theorem State.sampleStmt_of_start {k : StartStmt} (hs : s.sub ≠ 0) (hq : s.sdseq = .start k) :
    s.sampleStmt = s.startStmt k := by
  rw [State.sampleStmt_eq_sdStmt hs (by simp [hq]) (by simp [hq]) (by simp [hq])]
  simp [State.sdStmt, hq]

theorem State.sampleStmt_of_reads (hs : s.sub ≠ 0) (hr : s.sdseq.reads = true) : s.sampleStmt = s.pollOnce := by
  obtain ⟨he, hd, hf⟩ := State.sdStmt_of_reads hr
  rw [State.sampleStmt_eq_sdStmt hs (fun hi => by simp [hi, SdSeq.reads] at hr) hd hf, he]

theorem State.sampleStmt_of_asm (hs : s.sub ≠ 0) (hq : s.sdseq = .data .asm) : s.sampleStmt = s.finishStream := by
  rw [State.sampleStmt_eq_sdStmt hs (by simp [hq]) (by simp [hq]) (by simp [hq])]
  simp [State.sdStmt, hq]

end

/-- Settles O53, row by row of the table. -/
theorem driverSequencerFollowsItsTable : Obligations.DriverSequencerFollowsItsTable := by
  intro s t hm hs ht level
  obtain ⟨-, -, -, -, -, hsample, -⟩ := mainStmt_selected ht
  obtain rfl : t = s.sampleStmt := hsample hm
  have hstart : ∀ k, s.sdseq = .start k → s.sampleStmt = s.startStmt k := fun k => State.sampleStmt_of_start hs
  have hread : ∀ q, q.reads = true → s.sdseq = q → s.sampleStmt.acq = s.acq.feed s.cfg.prepLowWait level := by
    rintro _ hr rfl
    rw [State.sampleStmt_of_reads hs hr, s.pollOnce_acq]
  refine ⟨State.sampleStmt_sdseq_of_idle hs, fun hq => ?_, fun hq => ?_, fun hq => ?_, fun hq => ?_, fun hq => ?_,
    fun hq => ?_, fun hq => ?_, fun hq hl => ?_, fun hq => ?_, fun hq => ?_, fun hq => ?_, fun hq hl => ?_,
    fun hq => ?_, State.sampleStmt_sdseq_of_result hs⟩
  · rw [hstart _ hq, s.startStmt_wake]
  · rw [hstart _ hq, s.startStmt_low]
  · rw [hstart _ hq, s.startStmt_release]
  · rw [hstart _ hq, s.startStmt_input]
    exact ⟨rfl, rfl⟩
  · exact (congrArg Acq.seq (hread _ rfl hq)).trans (Acq.feed_p1 hq)
  · exact (congrArg Acq.seq (hread _ rfl hq)).trans (Acq.feed_p2 hq)
  · exact (congrArg Acq.seq (hread _ rfl hq)).trans (Acq.feed_p3 hq).1
  · exact (congrArg Acq.idx (hread _ rfl hq)).trans ((Acq.feed_p3 hq).2 hl)
  · exact (congrArg Acq.seq (hread _ rfl hq)).trans (Acq.feed_a hq)
  · have ha := hread _ rfl hq
    exact ⟨(congrArg Acq.seq ha).trans (Acq.feed_c hq).1, (congrArg Acq.bits ha).trans (Acq.feed_c hq).2⟩
  · exact (congrArg Acq.seq (hread _ rfl hq)).trans (Acq.feed_d hq).1
  · exact (congrArg Acq.idx (hread _ rfl hq)).trans ((Acq.feed_d hq).2 hl)
  · rw [State.sampleStmt_of_asm hs hq]
    exact s.finishStream_branch

end Sys2Proof.Machine

/-! ## The Sampling Engine -/

namespace Sys2Proof.Machine

/-- Settles O34: nine acquisitions under the sensor's duties, then the sort. -/
theorem sampleMedianOfNineStreams : Obligations.SampleMedianOfNineStreams := by
  intro s ty w str rest hk hs hd hq
  rw [exec, execSeSampleMedian, if_neg hk, State.sampleMedian_of_reads ty hs hd hq]

/-! ### The sort (R151, R152) -/

/-- Descending in the unsigned order (R152, decision D8). -/
def Descending (l : List Word) : Prop := l.Pairwise fun x y => y.toNat ≤ x.toNat

theorem insertDesc_descending (w : Word) {l : List Word} (h : Descending l) : Descending (insertDesc w l) := by
  induction l with
  | nil => exact List.pairwise_singleton ..
  | cons x xs ih =>
    obtain ⟨hx, hxs⟩ := List.pairwise_cons.mp h
    unfold insertDesc
    split
    next hle =>
      refine h.cons fun y hy => ?_
      rcases List.mem_cons.mp hy with rfl | hy
      · exact hle
      · exact (hx y hy).trans hle
    next hlt =>
      refine (ih hxs).cons fun y hy => ?_
      rcases List.mem_cons.mp ((perm_insertDesc w xs).mem_iff.mp hy) with rfl | hy
      · exact (not_le.mp hlt).le
      · exact hx y hy

theorem sortDesc_descending (l : List Word) : Descending (sortDesc l) := by
  induction l with
  | nil => exact List.Pairwise.nil
  | cons x xs ih => exact insertDesc_descending x ih

/-! ### The rank of an element of a descending list -/

section
variable {l : List Word}

theorem Descending.getElem_le (h : Descending l) {i j : Nat} (hij : i ≤ j) (hj : j < l.length) :
    l[j].toNat ≤ l[i].toNat := by
  obtain rfl | hlt := hij.eq_or_lt
  · exact le_rfl
  · exact List.pairwise_iff_getElem.mp h i j (hlt.trans hj) hj hlt

/-- Element `i` and the `i` before it are not below it. -/
theorem Descending.lt_countP_not_below (h : Descending l) {i : Nat} (hi : i < l.length) :
    i < l.countP fun x => l[i].toNat ≤ x.toNat := by
  have hfront : (l.take (i + 1)).countP (fun x => l[i].toNat ≤ x.toNat) = (l.take (i + 1)).length := by
    refine List.countP_eq_length.mpr fun x hx => ?_
    obtain ⟨j, hj, rfl⟩ := List.mem_take_iff_getElem.mp hx
    exact decide_eq_true (h.getElem_le (by omega) hi)
  calc i < (l.take (i + 1)).length := by rw [List.length_take]; omega
    _ = _ := hfront.symm
    _ ≤ _ := (List.take_sublist ..).countP_le

/-- Element `i` and those after it are not above it. -/
theorem Descending.length_sub_le_countP_not_above (h : Descending l) {i : Nat} (hi : i < l.length) :
    l.length - i ≤ l.countP fun x => x.toNat ≤ l[i].toNat := by
  have hback : (l.drop i).countP (fun x => x.toNat ≤ l[i].toNat) = (l.drop i).length := by
    refine List.countP_eq_length.mpr fun x hx => ?_
    obtain ⟨j, hj, rfl⟩ := List.mem_drop_iff_getElem.mp hx
    exact decide_eq_true (h.getElem_le (by omega) (by omega))
  calc l.length - i = _ := by rw [hback, List.length_drop]
    _ ≤ _ := (List.drop_sublist ..).countP_le

end

/-! ### The median of nine (R151, R153) -/

section
variable (v : Vector Word 9)

theorem sortSample_descending : Descending (sortSample v).toList := sortDesc_descending v.toList

theorem perm_sortSample : (sortSample v).toList.Perm v.toList := perm_sortDesc v.toList

theorem median_mem : (sortSample v)[4] ∈ v.toList :=
  (perm_sortSample v).mem_iff.mp (Vector.mem_toList_iff.mpr (Vector.getElem_mem _))

theorem five_le_countP_not_below_median : 5 ≤ v.toList.countP fun x => (sortSample v)[4].toNat ≤ x.toNat := by
  have hrank := (sortSample_descending v).lt_countP_not_below (i := 4) (by simp)
  rwa [(perm_sortSample v).countP_eq] at hrank

theorem five_le_countP_not_above_median : 5 ≤ v.toList.countP fun x => x.toNat ≤ (sortSample v)[4].toNat := by
  have hrank := (sortSample_descending v).length_sub_le_countP_not_above (i := 4) (by simp)
  rw [(perm_sortSample v).countP_eq] at hrank
  calc 5 = (sortSample v).toList.length - 4 := by rw [Vector.length_toList]
    _ ≤ _ := hrank

end

/-- Settles O35: the rank of element 4, carried over to the unsorted list. -/
theorem sortGivesTheMedian : Obligations.SortGivesTheMedian := by
  intro v
  rw [← List.countP_eq_length_filter, ← List.countP_eq_length_filter]
  exact ⟨sortSample_descending v, perm_sortSample v, median_mem v, five_le_countP_not_below_median v,
    five_le_countP_not_above_median v⟩

section
variable {v : Vector Word 9} {good : List Word} {k : Nat} (hp : v.toList.Perm (good ++ List.replicate k 0))
include hp

/-- If no good reading is zero, a zero median has five zeros at or below it, all of them failed readings. -/
theorem median_mem_of_few_zeros (hk : k ≤ 4) : (sortSample v)[4] ∈ good := by
  by_contra hnot
  have hzero : (sortSample v)[4] = 0 := by
    have hmem := hp.mem_iff.mp (median_mem v)
    exact List.eq_of_mem_replicate ((List.mem_append.mp hmem).resolve_left hnot)
  have hgood : good.countP (fun x => x.toNat ≤ (sortSample v)[4].toNat) = 0 := by
    refine List.countP_eq_zero.mpr fun x hx hle => hnot ?_
    have hx0 : x = 0 := BitVec.eq_of_toNat_eq (by simpa [hzero] using hle)
    rwa [hzero, ← hx0]
  have hfive := five_le_countP_not_above_median v
  have hfailed := (List.replicate k (0 : Word)).countP_le_length (p := fun x => x.toNat ≤ (sortSample v)[4].toNat)
  rw [hp.countP_eq, List.countP_append, hgood] at hfive
  rw [List.length_replicate] at hfailed
  omega

/-- A median above zero has five readings at or above it, none of them a failed one. -/
theorem median_eq_zero_of_many_zeros (hk : 5 ≤ k) : (sortSample v)[4] = 0 := by
  by_contra hne
  have hpos : (sortSample v)[4].toNat ≠ 0 := fun h => hne (BitVec.eq_of_toNat_eq h)
  have hfailed : (List.replicate k (0 : Word)).countP (fun x => (sortSample v)[4].toNat ≤ x.toNat) = 0 := by
    refine List.countP_eq_zero.mpr fun x hx hle => hpos ?_
    simpa [List.eq_of_mem_replicate hx] using hle
  have hnine : good.length + k = 9 := by simpa using hp.length_eq.symm
  have hfive := five_le_countP_not_below_median v
  have hgood := good.countP_le_length (p := fun x => (sortSample v)[4].toNat ≤ x.toNat)
  rw [hp.countP_eq, List.countP_append, hfailed] at hfive
  omega

end

/-- Settles O36: both clauses by counting the readings on one side of the median. -/
theorem zeroReadingsTakePartInTheMedian : Obligations.ZeroReadingsTakePartInTheMedian :=
  fun _ _ _ hp => ⟨median_mem_of_few_zeros hp, median_eq_zero_of_many_zeros hp⟩

end Sys2Proof.Machine

/-! ## Nothing stops a step, and the handler runs under its condition only -/

namespace Sys2Proof.Machine

/-- Settles O16: the handler's turn is its entry under the notification condition (R169). -/
theorem handlerNeedsPendingAndEnabled : Obligations.HandlerNeedsPendingAndEnabled := by
  intro s hn
  have hready : ¬ s.notifyReady = true := fun h => hn (s.notifyReady_iff.mp h)
  rw [exec, execDispNotify, if_neg hready]

/-! ### Every step answers (R156, R160) -/

section
variable {s : State}

/-- Where MAIN samples, the type is known (R156): the engine's only refusal is not reached. -/
theorem State.Inv.rtype_known (h : s.Inv) (hm : s.mseq = .sample) : s.rtype ≠ .unknown :=
  (h.type_known (by simp [hm, MSeq.typed])).2

theorem State.Inv.mainStmt_answers (h : s.Inv) : ∃ t, Machine.mainStmt s = .next t := by
  cases hm : s.mseq with
  | sample => exact ⟨_, mainStmt_sample hm (h.rtype_known hm)⟩
  | poll | read | indOn | validate | decode | encode | send | pace | rearm | mismatch =>
    exact ⟨_, by simp only [Machine.mainStmt, hm]; rfl⟩

theorem State.Inv.mainOp_answers (h : s.Inv) : ∃ t, Machine.mainOp s = .next t := by
  cases hm : s.mseq with
  | sample => exact ⟨_, by simp only [Machine.mainOp, hm, execMainSampleStep, if_neg (h.rtype_known hm)]; rfl⟩
  | poll | read | indOn | validate | decode | encode | send | pace | rearm | mismatch =>
    exact ⟨_, by simp only [Machine.mainOp, hm]; rfl⟩

/-- A cycle passes on what its operations answer, each from the invariant the one before kept. -/
theorem State.Inv.cycle_answers (h : s.Inv) (n : Nat) : ∃ t, cycle n s = .next t := by
  induction n generalizing s with
  | zero => exact ⟨s, rfl⟩
  | succ n ih =>
    obtain ⟨u, hu⟩ := h.mainOp_answers
    simp only [cycle, hu]
    split
    · exact ⟨u, rfl⟩
    · exact ih (h.mainOp hu)

/-- The bytes that wait are free while the core is ready (R66). -/
theorem State.Inv.withQueue (h : s.Inv) (hr : s.ready = true) (q : List Byte) : ({ s with rxq := q } : State).Inv :=
  { h with rx_empty := by simp [(s.ready_iff.mp hr).2.2.2] }

theorem State.Inv.takeFrame_answers (h : s.Inv) (bytes : List Byte) : ∃ t, Machine.takeFrame bytes s = .next t := by
  cases hr : s.ready with
  | true =>
    rw [takeFrame_ready bytes s hr]
    obtain ⟨-, -, hn, -⟩ := s.ready_iff.mp hr
    exact ((h.withQueue hr (bytes ++ s.rxq)).takeNotification hn).cycle_answers cycleLength
  | false => exact ⟨_, takeFrame_waits bytes s hr⟩

theorem State.Inv.selected_answers (h : s.Inv) : ∃ t, exec (Machine.selected s) s = .next t := by
  rw [exec_selected]
  exact h.mainOp_answers

theorem State.Inv.transact_answers (h : s.Inv) : ∃ t, exec (fetch s).1 (fetch s).2 = .next t := by
  rcases fetch_cases s with ⟨hr, i, rest, hi, he⟩ | ⟨-, -, hu, te, ck, he⟩ | ⟨-, he⟩ | he
  · rw [he, exec_of_request i hi]
    exact (h.withQueue hr rest).takeFrame_answers (encode i)
  · rw [he]; exact ⟨_, rfl⟩
  · rw [he]; exact ⟨_, rfl⟩
  · rw [he]; exact h.selected_answers

theorem State.Inv.act_answers (h : s.Inv) (u : Turn) : ∃ t, Machine.act u s = .next t := by
  cases u with
  | master b => exact ⟨_, rfl⟩
  | handler => exact ⟨_, rfl⟩
  | stmt => exact h.mainStmt_answers
  | main => exact h.selected_answers
  | transact => exact h.transact_answers
  | reset => exact ⟨_, rfl⟩

end

/-- Settles O47: whatever turn is due, its agent answers. -/
theorem stepAlwaysAnswers : Obligations.StepAlwaysAnswers :=
  fun _ h => h.nextTurn.act_answers _

end Sys2Proof.Machine

/-! ## The record is never read -/

namespace Sys2Proof.Machine

/-! ### States and outcomes that differ only in the record -/

/-- The state with its record emptied: what two states that differ only in the record have in common. -/
def State.unrecorded (s : State) : State := { s with trace := [] }

/-- The reads of an acquisition, with the record emptied. -/
def Acq.unrecorded (a : Acq) : Acq := { a with trace := [] }

/-- The outcome with the record of its next state emptied. -/
def unrecordedOutcome : Result → Result
  | .next s => .next s.unrecorded
  | .fault r => .fault r
  | .refused r => .refused r

/-- Outcomes that differ only in the record are two next states that do, or one refusal: there is no fault (R160). -/
theorem unrecordedOutcome_eq_cases {x y : Result} (h : unrecordedOutcome x = unrecordedOutcome y) :
    (∃ a b, x = .next a ∧ y = .next b ∧ a.unrecorded = b.unrecorded) ∨ ∃ r, x = .refused r ∧ y = .refused r := by
  cases x with
  | next a =>
    cases y with
    | next b => exact .inl ⟨a, b, rfl, rfl, Host.Outcome.next.inj h⟩
    | fault r => nomatch r
    | refused r => nomatch h
  | fault r => nomatch r
  | refused r =>
    cases y with
    | next b => nomatch h
    | fault r => nomatch r
    | refused r' => exact .inr ⟨r, rfl, h.symm⟩

@[simp] theorem State.unrecorded_mseq (s : State) : s.unrecorded.mseq = s.mseq := rfl
@[simp] theorem State.unrecorded_sdseq (s : State) : s.unrecorded.sdseq = s.sdseq := rfl
@[simp] theorem State.unrecorded_sub (s : State) : s.unrecorded.sub = s.sub := rfl
@[simp] theorem State.unrecorded_slaveAddr (s : State) : s.unrecorded.slaveAddr = s.slaveAddr := rfl
@[simp] theorem State.unrecorded_sbit (s : State) : s.unrecorded.sbit = s.sbit := rfl
@[simp] theorem State.unrecorded_rxq (s : State) : s.unrecorded.rxq = s.rxq := rfl
@[simp] theorem State.unrecorded_pinMode (s : State) : s.unrecorded.pinMode = s.pinMode := rfl
@[simp] theorem State.unrecorded_pinq (s : State) : s.unrecorded.pinq = s.pinq := rfl
@[simp] theorem State.unrecorded_sched (s : State) : s.unrecorded.sched = s.sched := rfl

section
variable {α : Type} {view : α → α}

/-- `f` does not read the record: emptied beforehand, it makes no difference that `view` shows. -/
def Blind (view : α → α) (f : State → α) : Prop := ∀ s, view (f s.unrecorded) = view (f s)

/-- States that differ only in the record are taken alike. -/
theorem Blind.congr {f : State → α} (hf : Blind view f) {s t : State} (h : s.unrecorded = t.unrecorded) :
    view (f s) = view (f t) :=
  calc view (f s) = view (f s.unrecorded) := (hf s).symm
    _ = view (f t.unrecorded) := by rw [h]
    _ = view (f t) := hf t

theorem Blind.comp {g : State → α} {f : State → State} (hg : Blind view g) (hf : Blind State.unrecorded f) :
    Blind view fun s => g (f s) :=
  fun s => hg.congr (hf s)

/-- A branch on a condition that does not read the record. -/
theorem Blind.ite {c : State → Prop} [DecidablePred c] {f g : State → α} (hf : Blind view f) (hg : Blind view g)
    (hc : ∀ s, c s.unrecorded ↔ c s := by exact fun _ => Iff.rfl) : Blind view fun s => if c s then f s else g s := by
  intro s
  simp only [hc s]
  split
  · exact hf s
  · exact hg s

theorem Blind.refused (r : Refusal) : Blind unrecordedOutcome fun _ => .refused r := fun _ => rfl

theorem Blind.next {f : State → State} (hf : Blind State.unrecorded f) :
    Blind unrecordedOutcome fun s => .next (f s) :=
  fun s => congrArg Host.Outcome.next (hf s)

end

theorem blind_id : Blind State.unrecorded fun s => s := fun _ => rfl

/-- Statements that do not read the record, performed in a row. -/
theorem blind_foldl {stmts : List (State → State)} (hf : ∀ f ∈ stmts, Blind State.unrecorded f) :
    Blind State.unrecorded fun s => stmts.foldl (fun t f => f t) s := by
  induction stmts with
  | nil => exact blind_id
  | cons f fs ih =>
    exact (ih fun g hg => hf g (List.mem_cons_of_mem f hg)).comp (hf f List.mem_cons_self)

theorem blind_runStmts {stmts : List (State → State)} (hf : ∀ f ∈ stmts, Blind State.unrecorded f) :
    Blind State.unrecorded (runStmts stmts) :=
  fun s => blind_foldl (stmts := remaining stmts s.sub) (fun f hm => hf f (List.mem_of_mem_drop hm)) s

theorem blind_oneStmt {stmts : List (State → State)} (hf : ∀ f ∈ stmts, Blind State.unrecorded f) :
    Blind State.unrecorded (oneStmt stmts) := by
  intro s
  unfold oneStmt
  rw [s.unrecorded_sub]
  cases hr : remaining stmts s.sub with
  | nil => rfl
  | cons f fs =>
    have hmem : f ∈ remaining stmts s.sub := by simp [hr]
    exact hf f (List.mem_of_mem_drop hmem) s

/-! ### The operations on the state -/

theorem blind_masterSend (b : Byte) : Blind State.unrecorded fun s => s.masterSend b :=
  .ite (fun _ => rfl) blind_id

theorem blind_masterSendAll (bytes : List Byte) : Blind State.unrecorded fun s => s.masterSendAll bytes := by
  induction bytes with
  | nil => exact blind_id
  | cons b bs ih => exact ih.comp (blind_masterSend b)

theorem blind_takeNotification : Blind State.unrecorded State.takeNotification := by
  intro s
  unfold State.takeNotification
  rw [s.unrecorded_rxq]
  cases s.rxq with
  | nil => rfl
  | cons b q => rfl

theorem State.unrecorded_pinRead (s : State) : s.unrecorded.pinRead = (s.pinRead.1, s.pinRead.2.unrecorded) := by
  unfold State.pinRead
  rw [s.unrecorded_pinMode, s.unrecorded_pinq]
  cases s.pinMode with
  | output => rfl
  | input =>
    cases s.pinq with
    | nil => rfl
    | cons b q => rfl

/-! ### The driver -/

theorem Acq.feed_unrecorded (lw : Bool) (a : Acq) (l : Bool) :
    (a.unrecorded.feed lw l).unrecorded = (a.feed lw l).unrecorded := by
  obtain ⟨q, i, b, tr⟩ := a
  cases q with
  | idle | start | done | fail => rfl
  | prep p => cases p <;> cases l <;> rfl
  | data st =>
    cases st with
    | a => cases l <;> rfl
    | c => rfl
    | asm => rfl
    | d =>
      cases l with
      | true => rfl
      | false => by_cases hi : i + 1 < 40 <;> simp [Acq.feed, Acq.unrecorded, hi]

/-- Whether the reads go on is decided by the driver's place, and what is left over by how far they go. -/
theorem Acq.run_unrecorded (lw : Bool) (ls : List Bool) (a : Acq) :
    (Acq.run lw a.unrecorded ls).map Acq.unrecorded id = (Acq.run lw a ls).map Acq.unrecorded id := by
  induction ls generalizing a with
  | nil => rfl
  | cons l ls ih =>
    cases hr : a.seq.reads with
    | true =>
      rw [Acq.run_cons lw a l ls hr, Acq.run_cons lw a.unrecorded l ls hr, ← ih (a.unrecorded.feed lw l),
        a.feed_unrecorded lw l, ih]
    | false =>
      rw [Acq.run_done lw a _ hr, Acq.run_done lw a.unrecorded _ hr]
      rfl

theorem State.setAcq_unrecorded (s : State) (a : Acq) :
    (s.setAcq a).unrecorded = s.unrecorded.setAcq a.unrecorded := rfl

theorem blind_pollOnce : Blind State.unrecorded State.pollOnce := by
  intro s
  unfold State.pollOnce
  rw [State.setAcq_unrecorded, State.setAcq_unrecorded, s.unrecorded_pinRead]
  exact congrArg _ (s.acq.feed_unrecorded s.cfg.prepLowWait s.pinRead.1)

theorem blind_pollAll : Blind State.unrecorded State.pollAll := by
  intro s
  obtain ⟨hacq, hleft⟩ := Prod.mk.inj (s.acq.run_unrecorded s.cfg.prepLowWait s.pinq)
  change { s.unrecorded.setAcq (Acq.run s.cfg.prepLowWait s.acq.unrecorded s.pinq).1.unrecorded with
    pinq := (Acq.run s.cfg.prepLowWait s.acq.unrecorded s.pinq).2 } = _
  rw [hacq, show (Acq.run s.cfg.prepLowWait s.acq.unrecorded s.pinq).2 = _ from hleft]
  rfl

theorem blind_polls : Blind State.unrecorded State.polls :=
  .ite (.ite blind_pollAll blind_pollOnce) blind_id

theorem blind_startStmt (k : StartStmt) : Blind State.unrecorded fun s => s.startStmt k := by
  cases k with
  | wake | low | release | input => exact fun _ => rfl

theorem blind_startPulse : Blind State.unrecorded State.startPulse := by
  intro s
  unfold State.startPulse
  rw [s.unrecorded_sdseq]
  cases s.sdseq with
  | start k => cases k <;> rfl
  | idle | prep | data | done | fail => rfl

theorem blind_finishStream : Blind State.unrecorded State.finishStream := by
  have hfail : Blind State.unrecorded State.softFail := .ite (fun _ => rfl) (fun _ => rfl)
  exact hfail.comp fun _ => rfl

theorem blind_acquireReturn : Blind State.unrecorded State.acquireReturn := by
  have hasm : Blind State.unrecorded fun s => s.finishStream.sdGoto .idle :=
    Blind.comp (g := fun s => s.sdGoto .idle) (fun _ => rfl) blind_finishStream
  intro s
  unfold State.acquireReturn
  rw [s.unrecorded_sdseq]
  cases s.sdseq with
  | data b =>
    cases b with
    | asm => exact hasm s
    | a | c | d => rfl
  | idle | start | prep | done | fail => rfl

theorem blind_acquire : Blind State.unrecorded State.acquire :=
  blind_acquireReturn.comp (blind_polls.comp blind_startPulse)

theorem blind_sdStmt : Blind State.unrecorded State.sdStmt := by
  intro s
  unfold State.sdStmt
  rw [s.unrecorded_sdseq]
  cases s.sdseq with
  | start k => exact blind_startStmt k s
  | prep p => exact blind_pollOnce s
  | data b =>
    cases b with
    | a | c | d => exact blind_pollOnce s
    | asm => exact blind_finishStream s
  | idle | done | fail => rfl

/-! ### The sampling -/

theorem blind_keepReading (ty : ReqType) : Blind State.unrecorded fun s => s.keepReading ty := by
  intro s
  dsimp only
  rw [State.keepReading_eq, State.keepReading_eq]
  rfl

theorem blind_passes (n : Nat) (ty : ReqType) : Blind State.unrecorded fun s => s.passes n ty := by
  induction n with
  | zero => exact blind_id
  | succ n ih =>
    have hnext : Blind State.unrecorded fun a => if a.sdseq = .idle then (a.keepReading ty).passes n ty else a :=
      .ite (ih.comp (blind_keepReading ty)) blind_id
    exact hnext.comp blind_acquire

theorem blind_beginSample : Blind State.unrecorded State.beginSample :=
  .ite (fun _ => rfl) blind_id

theorem blind_takeMedian : Blind State.unrecorded State.takeMedian := fun _ => rfl

theorem blind_sampleMedian (ty : ReqType) : Blind State.unrecorded fun s => s.sampleMedian ty := by
  have hpasses : Blind State.unrecorded fun s => s.passes (sampleCount - s.smpIdx) ty :=
    fun s => blind_passes (sampleCount - s.smpIdx) ty s
  have hend : Blind State.unrecorded State.endSample := .ite blind_takeMedian blind_id
  exact hend.comp (hpasses.comp blind_beginSample)

theorem blind_seStmt (ty : ReqType) : Blind State.unrecorded fun s => s.seStmt ty := by
  refine .ite blind_beginSample (.ite blind_takeMedian fun s => ?_)
  rw [s.unrecorded_sdseq]
  cases s.sdseq with
  | done | fail => exact (blind_keepReading ty).comp blind_sdStmt s
  | idle | start | prep | data => exact blind_sdStmt s

/-! ### MAIN's operations and statements -/

theorem blind_goto (m : MSeq) : Blind State.unrecorded fun s => s.goto m := fun _ => rfl

theorem blind_beginRead : Blind State.unrecorded State.beginRead :=
  .ite (fun _ => rfl) blind_id

theorem blind_readBytes (n : Nat) : Blind State.unrecorded (State.readBytes n) := by
  induction n with
  | zero => exact blind_id
  | succ n ih =>
    intro s
    cases hq : s.rxq with
    | nil => rw [s.readBytes_nil _ hq, s.unrecorded.readBytes_nil _ hq]; rfl
    | cons b q =>
      rw [s.readBytes_cons n b q hq, s.unrecorded.readBytes_cons n b q hq]
      exact ih.congr rfl

theorem blind_readFrame : Blind State.unrecorded State.readFrame := by
  have hbytes : Blind State.unrecorded fun s => s.readBytes (8 - s.byteIdx) :=
    fun s => blind_readBytes (8 - s.byteIdx) s
  have hend : Blind State.unrecorded State.endRead := .ite (blind_goto .indOn) blind_id
  exact hend.comp (hbytes.comp blind_beginRead)

theorem blind_readStmt : Blind State.unrecorded State.readStmt :=
  .ite blind_beginRead (.ite (blind_goto .indOn) (blind_readBytes 1))

theorem blind_beginSend : Blind State.unrecorded State.beginSend :=
  .ite (fun _ => rfl) blind_id

theorem blind_sendByte : Blind State.unrecorded State.sendByte := fun _ => rfl

theorem blind_sendBytes (n : Nat) : Blind State.unrecorded (State.sendBytes n) := by
  induction n with
  | zero => exact blind_id
  | succ n ih => exact ih.comp blind_sendByte

theorem blind_send : Blind State.unrecorded State.send := by
  have hbytes : Blind State.unrecorded fun s => s.sendBytes (7 - s.byteIdx) :=
    fun s => blind_sendBytes (7 - s.byteIdx) s
  exact (blind_goto .pace).comp (hbytes.comp blind_beginSend)

theorem blind_sendStmt : Blind State.unrecorded State.sendStmt :=
  .ite blind_beginSend (.ite (blind_goto .pace) blind_sendByte)

theorem blind_validateStep : Blind State.unrecorded State.validateStep := by
  have hbranch : Blind State.unrecorded State.branchOnCrc := .ite (blind_goto .decode) fun _ => rfl
  exact hbranch.comp fun _ => rfl

theorem blind_decodeStep : Blind State.unrecorded State.decodeStep := by
  have hbranch : Blind State.unrecorded State.branchOnType := .ite (fun _ => rfl) (blind_goto .sample)
  exact hbranch.comp fun _ => rfl

theorem blind_leaveSample : Blind State.unrecorded State.leaveSample :=
  .ite (blind_goto .encode) blind_id

theorem blind_sampleStep : Blind State.unrecorded State.sampleStep :=
  blind_leaveSample.comp fun s => blind_sampleMedian s.rtype s

theorem blind_sampleStmt : Blind State.unrecorded State.sampleStmt :=
  blind_leaveSample.comp fun s => blind_seStmt s.rtype s

theorem blind_indicatorOnStmts : ∀ f ∈ indicatorOnStmts, Blind State.unrecorded f := by
  simp [indicatorOnStmts, Blind, State.unrecorded]

theorem blind_rearmStmts : ∀ f ∈ rearmStmts, Blind State.unrecorded f := by
  simp [rearmStmts, Blind, State.unrecorded]

theorem blind_mismatchStmts : ∀ f ∈ mismatchStmts, Blind State.unrecorded f := by
  simp [mismatchStmts, Blind, State.unrecorded]

theorem blind_mainPaceRearm : Blind unrecordedOutcome execMainPaceRearm :=
  .next (.ite (blind_runStmts blind_rearmStmts)
    ((blind_runStmts blind_rearmStmts).comp fun _ => rfl))

theorem blind_mainSampleStep : Blind unrecordedOutcome execMainSampleStep :=
  .ite (.refused _) (.next blind_sampleStep)

theorem blind_mainOp : Blind unrecordedOutcome mainOp := by
  intro s
  unfold mainOp
  rw [s.unrecorded_mseq]
  cases s.mseq with
  | poll => rfl
  | read => exact blind_readFrame.next s
  | indOn => exact (blind_runStmts blind_indicatorOnStmts).next s
  | validate => exact blind_validateStep.next s
  | decode => exact blind_decodeStep.next s
  | sample => exact blind_mainSampleStep s
  | encode => rfl
  | send => exact blind_send.next s
  | pace | rearm => exact blind_mainPaceRearm s
  | mismatch => exact (blind_runStmts blind_mismatchStmts).next s

theorem blind_mainStmt : Blind unrecordedOutcome mainStmt := by
  have hsample : Blind unrecordedOutcome fun s =>
      if s.rtype = .unknown then .refused .sampleUnknownType else .next s.sampleStmt :=
    .ite (.refused _) blind_sampleStmt.next
  intro s
  unfold mainStmt
  rw [s.unrecorded_mseq]
  cases s.mseq with
  | poll => rfl
  | read => exact blind_readStmt.next s
  | indOn => exact (blind_oneStmt blind_indicatorOnStmts).next s
  | validate => exact blind_validateStep.next s
  | decode => exact blind_decodeStep.next s
  | sample => exact hsample s
  | encode => rfl
  | send => exact blind_sendStmt.next s
  | pace => rfl
  | rearm => exact (blind_oneStmt blind_rearmStmts).next s
  | mismatch => exact (blind_oneStmt blind_mismatchStmts).next s

/-! ### Encoded rows, and what a turn runs -/

/-- A cycle goes on by where its operations leave MAIN. -/
theorem blind_cycle (n : Nat) : Blind unrecordedOutcome (cycle n) := by
  induction n with
  | zero => exact fun _ => rfl
  | succ n ih =>
    intro s
    unfold cycle
    rcases unrecordedOutcome_eq_cases (blind_mainOp s) with ⟨a, b, ha, hb, hab⟩ | ⟨r, ha, hb⟩
    · have hm : a.mseq = b.mseq := by rw [← a.unrecorded_mseq, hab, b.unrecorded_mseq]
      simp only [ha, hb, hm, s.unrecorded_mseq]
      split
      · exact congrArg Host.Outcome.next hab
      · exact ih.congr hab
    · rw [ha, hb]

theorem blind_takeFrame (bytes : List Byte) : Blind unrecordedOutcome (takeFrame bytes) := by
  have hrun : Blind unrecordedOutcome fun s =>
      cycle cycleLength ({ s with rxq := bytes ++ s.rxq } : State).takeNotification :=
    (blind_cycle cycleLength).comp (blind_takeNotification.comp fun _ => rfl)
  exact .ite hrun (blind_masterSendAll bytes).next

theorem blind_dispNotify : Blind unrecordedOutcome execDispNotify :=
  .next (.ite blind_takeNotification blind_id)

/-- No instruction reads the record. -/
theorem blind_exec (i : Instr) : Blind unrecordedOutcome (exec i) := by
  cases i with
  | reqTemp | reqHum | reqUnk | reqBadCrc | reqOther => exact blind_takeFrame _
  | rspValue a v => exact (blind_send.comp fun _ => rfl).next
  | strData h t c => exact (blind_finishStream.comp fun _ => rfl).next
  | crc16Compute bytes n =>
    exact .ite (c := fun _ => n ≤ bytes.length) (.next fun _ => rfl) (.refused _)
  | fcValidate | fcDecodeRequestType | fcEncodeResponse | mainPoll | mainEncodeStep => exact fun _ => rfl
  | dispNotify => exact blind_dispNotify
  | mainReadFrame => exact blind_readFrame.next
  | mainIndicatorOn => exact (blind_runStmts blind_indicatorOnStmts).next
  | mainValidateStep => exact blind_validateStep.next
  | mainDecodeStep => exact blind_decodeStep.next
  | mainSampleStep => exact blind_mainSampleStep
  | mainSend => exact blind_send.next
  | mainPaceRearm => exact blind_mainPaceRearm
  | mainMismatch => exact (blind_runStmts blind_mismatchStmts).next
  | sdAcquire => exact blind_acquire.next
  | seSampleMedian ty =>
    exact .ite (c := fun _ => ty = .unknown) (.refused _) (blind_sampleMedian ty).next

/-- What a turn of MAIN decodes, and the bytes it takes, do not hang on the record. -/
theorem State.fetch_unrecorded (s : State) : fetch s.unrecorded = ((fetch s).1, (fetch s).2.unrecorded) := by
  have hsel : selected s.unrecorded = selected s := rfl
  have hready : s.unrecorded.ready = s.ready := rfl
  unfold fetch
  rw [s.unrecorded_mseq, hsel]
  cases s.mseq with
  | poll =>
    rw [hready, s.unrecorded_slaveAddr, s.unrecorded_rxq]
    cases s.ready with
    | false => rfl
    | true => cases decode .req s.slaveAddr s.rxq <;> rfl
  | sample =>
    rw [s.unrecorded_sdseq, s.unrecorded_slaveAddr, s.unrecorded_sbit]
    dsimp only
    split
    · cases decode .str s.slaveAddr (wireBytes 5 s.sbit.toNat) <;> rfl
    · rfl
  | encode => rfl
  | read | indOn | validate | decode | send | pace | rearm | mismatch => rfl

theorem blind_transact : Blind unrecordedOutcome fun s => exec (fetch s).1 (fetch s).2 := by
  intro s
  dsimp only
  rw [s.fetch_unrecorded]
  exact blind_exec (fetch s).1 (fetch s).2

theorem blind_act (u : Turn) : Blind unrecordedOutcome (act u) := by
  cases u with
  | master b => exact (blind_masterSend b).next
  | handler => exact blind_dispNotify
  | stmt => exact blind_mainStmt
  | main => exact fun s => blind_exec (selected s) s
  | transact => exact blind_transact
  | reset => exact fun _ => rfl

theorem State.nextTurn_unrecorded (s : State) :
    nextTurn s.unrecorded = ((nextTurn s).1, (nextTurn s).2.unrecorded) := by
  unfold nextTurn
  rw [s.unrecorded_sched]
  cases s.sched with
  | nil => rfl
  | cons t ts => rfl

theorem blind_step : Blind unrecordedOutcome step := by
  intro s
  unfold step
  rw [s.nextTurn_unrecorded]
  exact blind_act (nextTurn s).1 (nextTurn s).2

/-- Settles O57: the two steps answer alike, as neither reads the record (R160). -/
theorem traceIsNeverRead : Obligations.TraceIsNeverRead := by
  intro s tr
  have halike : unrecordedOutcome (step s) = unrecordedOutcome (step { s with trace := tr }) := blind_step.congr rfl
  rcases unrecordedOutcome_eq_cases halike with ⟨a, b, ha, hb, hab⟩ | ⟨r, ha, hb⟩
  · rw [ha, hb]; exact hab
  · rw [ha, hb]

end Sys2Proof.Machine
